-- ==== Sys2Proof/Word.lean ====
section
/-! DEFINITION. The block's word types: bytes, the names of the STATE register's values (rule R24), the two bytes the
block sees of a received datagram (rule R113), and the input sample of one clock cycle (rules R115 and R117). -/

namespace Sys2Proof

/-- One byte of a packet, of a datagram or of source memory (rule R11). -/
abbrev Byte := BitVec 8

/-- The eight values of the 3-bit STATE register (rule R24); their numbers are `ArqState.bits`. -/
inductive ArqState where
  | idle          -- 0, no transfer since reset
  | awaitingSend  -- 1, being framed, or offered for its first transmission
  | awaitingAck   -- 2, packet sent, waiting
  | confirmed     -- 3, one cycle after a matching acknowledgment
  | retry         -- 4, offered for retransmission
  | abandoned     -- 5, one cycle after the last frame's budget is exhausted
  | done          -- 6, transfer complete
  | error         -- 7, transfer ended by a fatal error
deriving DecidableEq, Repr, Inhabited

/-- What the block sees of a received datagram: its length and its first two bytes (rules R86 and R113). -/
structure Datagram where
  len : BitVec 16
  b0  : Byte
  b1  : Byte
deriving DecidableEq, Repr, Inhabited

/-- Every input the block samples at one rising edge of clk (rules R115 and R117). The eight strobes are the byte PV
that rule R117 numbers, and the host access is the 37-bit word A of rule R114, present in a cycle with csr_en = 1. -/
structure Sample where
  /-- PV[7:0] = rst, tx_done, tx_err, rx_valid, rx_err, mem_rsp_valid, mem_err, ms_tick. -/
  pv        : BitVec 8
  csrEn     : Bool
  /-- A[36:0] = csr_we, csr_off[3:0], csr_wdata[31:0]. -/
  csr       : BitVec 37
  rx        : Datagram
  memData   : Byte
  pktRdAddr : BitVec 10
deriving DecidableEq, Repr, Inhabited

/-- The cycle in which every input is 0 (rule R125, `CYCLE`). -/
def Sample.quiet : Sample :=
  { pv := 0, csrEn := false, csr := 0, rx := ⟨0, 0, 0⟩, memData := 0, pktRdAddr := 0 }

end Sys2Proof
end

