-- ==== Sys2Proof/Config.lean ====
section
/-! DEFINITION. The implementation parameters (rule R7, decision D48), the platform's OPEN parameters (D43, D44) and the
free values: constants with no body, so that no proof can rest on a value of theirs. -/

namespace Sys2Proof

/-- The source's parameters (rule R7, decision D48) and the width of the received length (spec 93, G2), each with its
value as default. Every other parameter of rule R7 follows from these or is the width of a register. Log 3. -/
structure Params where
  /-- PAYLOAD_SIZE, payload bytes per packet. -/
  payloadSize    : Nat := 1021
  /-- HEADER_SIZE, header bytes per packet. -/
  headerSize     : Nat := 3
  /-- ACK_SIZE, acknowledgment packet bytes. -/
  ackSize        : Nat := 2
  /-- SEQ_W, sequence number width in bits. -/
  seqW           : Nat := 16
  /-- LAST_RETRY_LIMIT, retransmissions of the last frame. -/
  lastRetryLimit : Nat := 100
  /-- RXLEN_W, width of the received datagram length in bits. -/
  rxLenW         : Nat := 16
deriving DecidableEq, Repr, Inhabited

/-- The legal values: the ranges at the end of rule R7 for PAYLOAD_SIZE and LAST_RETRY_LIMIT, which are all that it
gives. For the others, those that the formats admit: the header holds SEQ and FLAG (R112), an acknowledgment holds two
bytes (R113), and both fields have at most 16 bits. DESIGN CHOICE, log 3. -/
abbrev Params.Legal (p : Params) : Prop :=
  (1 ≤ p.payloadSize ∧ p.payloadSize ≤ 2047 ∧ p.lastRetryLimit ≤ 65534) ∧
  3 ≤ p.headerSize ∧ (2 ≤ p.ackSize ∧ p.ackSize < 2 ^ p.rxLenW) ∧ (1 ≤ p.seqW ∧ p.seqW ≤ 16) ∧ p.rxLenW ≤ 16

namespace Config

/-- CSR_BASE, the platform's base of the register window: OPEN (D43; log 12). -/
opaque csrBase : Nat

/-- TICK_CYCLES, clock cycles between two ms_tick strobes: OPEN (D44; log 12); no rule of the block depends on it (R252). -/
opaque tickCycles : Nat

/-- FREE VALUE (log 1): the inputs the environment drives in a cycle for which the state's list of pending samples holds
none. Rule R286: every input is a draw, and it never comes from a fixed law. -/
opaque freeSample : Nat → Sample

/-- FREE VALUE (log 5): mem_addr in a cycle with mem_req = 0 (spec 93, I15: any value). -/
opaque freeMemAddr : Nat → BitVec 32

/-- FREE VALUE (log 6): pkt_rd_data at an index the packet buffer does not have, which exists only where a varied
PAYLOAD_SIZE makes the buffer shorter than the 1024 bytes a 10-bit index reaches. -/
opaque freePktByte : Nat → Byte

end Config

/-- PACKET_SIZE = HEADER_SIZE + PAYLOAD_SIZE (rule R8). -/
def Params.packetSize (p : Params) : Nat := p.headerSize + p.payloadSize

/-- MAX_FRAMES = 2^SEQ_W (rule R7). -/
def Params.maxFrames (p : Params) : Nat := 2 ^ p.seqW

/-- MAX_LEN = MAX_FRAMES × PAYLOAD_SIZE (rule R7). -/
def Params.maxLen (p : Params) : Nat := p.maxFrames * p.payloadSize

end Sys2Proof
end

