-- ==== Sys2Proof/Syntax.lean ====
section
/-! DEFINITION. The operations: one constructor per row of spec/opcode_table.json, in the table's order. The block runs
no program (rule R23): its "instructions" are the operations its ports or its STATE register select (rule R121), and the
words it receives and drives (rules R112, R113 and R118). -/

namespace Sys2Proof

/-- One constructor per row of the opcode table; operands are the row's fields and its format's data fields. -/
inductive Instr where
  /-- CSR_RD (R271): offset, and the write data a read ignores (R114). -/
  | csrRd (off : BitVec 4) (wdata : BitVec 32)
  /-- CSR_WR_CTRL (R273): a CTRL write with A[0] = 0. -/
  | csrWrCtrl (wdata : BitVec 32)
  /-- START (R274): a CTRL write with A[0] = 1. -/
  | start (wdata : BitVec 32)
  /-- CSR_WR_STATUS (R278). -/
  | csrWrStatus (wdata : BitVec 32)
  /-- CSR_WR_SRC_BASE (R279). -/
  | csrWrSrcBase (wdata : BitVec 32)
  /-- CSR_WR_SRC_LEN (R280). -/
  | csrWrSrcLen (wdata : BitVec 32)
  /-- CSR_WR_TIMEOUT (R281). -/
  | csrWrTimeout (wdata : BitVec 32)
  /-- CSR_WR_RO (R282): a write to offset 5..15. -/
  | csrWrRo (off : BitVec 4) (wdata : BitVec 32)
  /-- RESET (R341). -/
  | reset
  /-- MEM_BYTE (R167): the byte that memory returned. -/
  | memByte (data : Byte)
  /-- MEM_ERR (R168). -/
  | memErr
  /-- TX_DONE_FIRST (R193). -/
  | txDoneFirst
  /-- TX_DONE_RETRY (R194). -/
  | txDoneRetry
  /-- TX_ERR (R305). -/
  | txErr
  /-- RX_ACK_MATCH (R198): the consumed datagram. -/
  | rxAckMatch (d : Datagram)
  /-- RX_MISMATCH (R199): the consumed datagram. -/
  | rxMismatch (d : Datagram)
  /-- RX_ERR (R306). -/
  | rxErr
  /-- MS_TICK (R242). -/
  | msTick
  /-- TICK_EXPIRE (R243). -/
  | tickExpire
  /-- TICK_ELAPSED (R246), which runs beside the operation of the other rows. -/
  | tickElapsed
  /-- CONFIRM (R202). -/
  | confirm
  /-- ABANDON (R203). -/
  | abandon
  /-- DATA_PKT (R112): sequence number, last flag, and every byte after FLAG. -/
  | dataPkt (seq : BitVec 16) (last : Bool) (payload : List Byte)
  /-- ACK_PKT (R113): the acknowledged sequence number. -/
  | ackPkt (ackv : BitVec 16)
  /-- EV_SENT (R193). -/
  | evSent (seq : BitVec 16)
  /-- EV_TIMEOUT (R243). -/
  | evTimeout (seq : BitVec 16)
  /-- EV_RESEND (R194). -/
  | evResend (seq : BitVec 16)
  /-- EV_ACK_ACCEPTED (R198). -/
  | evAckAccepted (seq : BitVec 16)
  /-- EV_GIVE_UP (R203). -/
  | evGiveUp (seq : BitVec 16)
  /-- EV_FATAL (R304): ERR_CODE. -/
  | evFatal (code : BitVec 4)
deriving DecidableEq, Repr

/-- The six formats of rule R111. -/
inductive Format where
  | fCsr | fPort | fState | fData | fAck | fEvent
deriving DecidableEq, Repr

/-- The format column of the opcode table. The two rows of format F-PORT + F-ACK are selected by their PV byte. -/
def Instr.format : Instr → Format
  | .csrRd _ _ | .csrWrCtrl _ | .start _ | .csrWrStatus _ | .csrWrSrcBase _ | .csrWrSrcLen _ | .csrWrTimeout _
  | .csrWrRo _ _ => .fCsr
  | .reset | .memByte _ | .memErr | .txDoneFirst | .txDoneRetry | .txErr | .rxAckMatch _ | .rxMismatch _ | .rxErr
  | .msTick | .tickExpire | .tickElapsed => .fPort
  | .confirm | .abandon => .fState
  | .dataPkt _ _ _ => .fData
  | .ackPkt _ => .fAck
  | .evSent _ | .evTimeout _ | .evResend _ | .evAckAccepted _ | .evGiveUp _ | .evFatal _ => .fEvent

end Sys2Proof
end

