-- ==== Sys2Proof/WellFormed.lean ====
section
/-! DEFINITION. Which operand values each row of the opcode table admits. -/

namespace Sys2Proof

/-- The operand conditions of the table's rows: A[0] tells CSR_WR_CTRL from START (R273, R274); CSR_WR_RO has an offset
in 5..15 (R282); an acknowledgment has rx_len = ACK_SIZE (R113, R197), and ACK_SIZE has room for its number; a data packet has
PACKET_SIZE bytes (R112); ERR_CODE 7..15 is reserved (R122 (d), R301). Every other operand value is admitted. -/
def Instr.wellFormed (p : Params) : Instr → Bool
  | .csrRd _ _ => true
  | .csrWrCtrl w => !w.getLsbD 0
  | .start w => w.getLsbD 0
  | .csrWrStatus _ => true
  | .csrWrSrcBase _ => true
  | .csrWrSrcLen _ => true
  | .csrWrTimeout _ => true
  | .csrWrRo off _ => decide (5 ≤ off.toNat)
  | .reset => true
  | .memByte _ => true
  | .memErr => true
  | .txDoneFirst => true
  | .txDoneRetry => true
  | .txErr => true
  | .rxAckMatch d => decide (d.len.toNat % 2 ^ p.rxLenW = p.ackSize)
  | .rxMismatch _ => true
  | .rxErr => true
  | .msTick => true
  | .tickExpire => true
  | .tickElapsed => true
  | .confirm => true
  | .abandon => true
  | .dataPkt _ _ payload => decide (3 + payload.length = p.packetSize)
  | .ackPkt _ => decide (2 ≤ p.ackSize)
  | .evSent _ => true
  | .evTimeout _ => true
  | .evResend _ => true
  | .evAckAccepted _ => true
  | .evGiveUp _ => true
  | .evFatal code => decide (code.toNat ≤ 6)

end Sys2Proof
end

