-- ==== Sys2Proof/Decode.lean ====
section
/-! DEFINITION. The decoder, total on any word of any of the six formats of rule R111 and rejecting by name, and after it
the encoder. An operation is selected by an input pattern and a guard on the state (R117), so a port word is decoded
together with the state bits the guards of rule R191 read. -/

namespace Sys2Proof

/-! ## Fields of the STATE register and of the selector S (rules R24, R119) -/

/-- The number of each STATE value (rule R24). -/
def ArqState.bits : ArqState → BitVec 3
  | .idle => 0
  | .awaitingSend => 1
  | .awaitingAck => 2
  | .confirmed => 3
  | .retry => 4
  | .abandoned => 5
  | .done => 6
  | .error => 7

/-- The STATE value of a 3-bit number: all eight are defined (rules R24 and R122 (f)). -/
def ArqState.ofBits (b : BitVec 3) : ArqState :=
  match b.toNat with
  | 0 => .idle
  | 1 => .awaitingSend
  | 2 => .awaitingAck
  | 3 => .confirmed
  | 4 => .retry
  | 5 => .abandoned
  | 6 => .done
  | _ => .error

/-- BUSY (rule R25): STATE is one of 1..5. -/
def ArqState.busy : ArqState → Bool
  | .awaitingSend | .awaitingAck | .confirmed | .retry | .abandoned => true
  | .idle | .done | .error => false

/-- S[4:0] = STATE[2:0], PKT_READY, MEM_PEND (rule R119). -/
def selector (st : ArqState) (pktReady memPend : Bool) : BitVec 5 :=
  st.bits ++ BitVec.ofBool pktReady ++ BitVec.ofBool memPend

/-- STATE in S. -/
def selState (sel : BitVec 5) : ArqState := ArqState.ofBits (sel.extractLsb' 2 3)

/-- PKT_READY in S. -/
def selPktReady (sel : BitVec 5) : Bool := sel.getLsbD 1

/-- MEM_PEND in S. -/
def selMemPend (sel : BitVec 5) : Bool := sel.getLsbD 0

/-- What the guards of rule R191 read of the state: the selector S, TIMER and SEQ. -/
structure GuardView where
  sel   : BitVec 5
  timer : BitVec 31
  seq   : BitVec 16
deriving DecidableEq, Repr

/-! ## Fields of the input byte PV (rule R117) and of the access word A (rule R114) -/

/-- PV[7] = rst. -/
def pvRst (pv : BitVec 8) : Bool := pv.getLsbD 7
/-- PV[6] = tx_done. -/
def pvTxDone (pv : BitVec 8) : Bool := pv.getLsbD 6
/-- PV[5] = tx_err. -/
def pvTxErr (pv : BitVec 8) : Bool := pv.getLsbD 5
/-- PV[4] = rx_valid. -/
def pvRxValid (pv : BitVec 8) : Bool := pv.getLsbD 4
/-- PV[3] = rx_err. -/
def pvRxErr (pv : BitVec 8) : Bool := pv.getLsbD 3
/-- PV[2] = mem_rsp_valid. -/
def pvMemRspValid (pv : BitVec 8) : Bool := pv.getLsbD 2
/-- PV[1] = mem_err. -/
def pvMemErr (pv : BitVec 8) : Bool := pv.getLsbD 1
/-- PV[0] = ms_tick. -/
def pvMsTick (pv : BitVec 8) : Bool := pv.getLsbD 0

/-- A[36] = csr_we. -/
def csrWe (a : BitVec 37) : Bool := a.getLsbD 36
/-- A[35:32] = csr_off. -/
def csrOff (a : BitVec 37) : BitVec 4 := a.extractLsb' 32 4
/-- A[31:0] = csr_wdata. -/
def csrWdata (a : BitVec 37) : BitVec 32 := a.extractLsb' 0 32

/-- rx_len, as many bits of it as the port carries (rules R113 and R115; RXLEN_W, log 3). -/
def Datagram.length (d : Datagram) (p : Params) : Nat := d.len.toNat % 2 ^ p.rxLenW

/-- ACKV = rx_b0, rx_b1, big-endian (rules R87, R113 and R196). -/
def Datagram.ackv (d : Datagram) : BitVec 16 := d.b0 ++ d.b1

/-- The datagram of an acknowledgment: ACK_SIZE bytes, the number's more significant one first (rules R87 and R113). -/
def ackDatagram (p : Params) (ackv : BitVec 16) : Datagram :=
  { len := BitVec.ofNat 16 p.ackSize, b0 := ackv.extractLsb' 8 8, b1 := ackv.extractLsb' 0 8 }

/-- rx_len = ACK_SIZE and ACKV = SEQ: the part of match (rule R197) that reads the datagram. -/
def Datagram.acknowledges (d : Datagram) (p : Params) (seq : BitVec 16) : Bool :=
  decide (d.length p = p.ackSize) && d.ackv == seq

/-- header(seq, last), the three bytes of rule R164. -/
def headerBytes (seq : BitVec 16) (last : Bool) : List Byte :=
  [seq.extractLsb' 8 8, seq.extractLsb' 0 8, if last then 0x01 else 0x00]

/-! ## Decoding -/

/-- A word of one of the block's formats (rule R111). -/
inductive Code where
  /-- F-CSR: the access word A of a cycle with csr_en = 1. -/
  | csr (a : BitVec 37)
  /-- F-PORT and F-PORT + F-ACK: PV, its data fields, and the state bits the guards read. -/
  | port (pv : BitVec 8) (rx : Datagram) (memData : Byte) (g : GuardView)
  /-- F-PORT once more, for the row that runs beside the others (TICK_ELAPSED). -/
  | beside (pv : BitVec 8) (sel : BitVec 5)
  /-- F-STATE: the selector S. -/
  | state (sel : BitVec 5)
  /-- F-DATA: the bytes of a packet. -/
  | packet (bytes : List Byte)
  /-- F-ACK: the bytes of a received datagram. -/
  | datagram (bytes : List Byte)
  /-- F-EVENT: the event word E. -/
  | event (e : BitVec 19)
deriving DecidableEq, Repr

/-- Why a word is no operation. -/
inductive DecodeError where
  /-- No row's pattern and guard hold: the inputs are ignored (rules R123 and R204). -/
  | noOperation
  /-- A state that waits for a port input: only CONFIRMED and ABANDONED are selected by the state alone (R119). -/
  | portSelected
  /-- Event codes 0 and 7 are never emitted (rule R122 (c)). -/
  | reservedEvent
  /-- The argument of FATAL is not a zero-extended ERR_CODE (rule R118). -/
  | fatalArgument
  /-- ERR_CODE 7..15 is never produced (rule R122 (d)). -/
  | reservedErrCode
  /-- A packet that is not PACKET_SIZE bytes (rule R112). -/
  | packetLength
  /-- A FLAG byte other than 0x00 and 0x01 (rule R122 (a)). -/
  | packetFlag
  /-- A datagram that is not exactly ACK_SIZE bytes is not an acknowledgment (rule R122 (b)). -/
  | datagramLength
deriving DecidableEq, Repr

/-- F-CSR (rules R114 and R121): every one of the 2^37 access words is an operation. -/
def decodeCsr (a : BitVec 37) : Instr :=
  if csrWe a then
    match (csrOff a).toNat with
    | 0 => if (csrWdata a).getLsbD 0 then .start (csrWdata a) else .csrWrCtrl (csrWdata a)
    | 1 => .csrWrStatus (csrWdata a)
    | 2 => .csrWrSrcBase (csrWdata a)
    | 3 => .csrWrSrcLen (csrWdata a)
    | 4 => .csrWrTimeout (csrWdata a)
    | _ => .csrWrRo (csrOff a) (csrWdata a)
  else .csrRd (csrOff a) (csrWdata a)

/-- F-STATE (rule R119): `011xx` is CONFIRM and `101xx` is ABANDON. -/
def decodeState (sel : BitVec 5) : Option Instr :=
  match selState sel with
  | .confirmed => some .confirm
  | .abandoned => some .abandon
  | .idle | .awaitingSend | .awaitingAck | .retry | .done | .error => none

/-- The case expression of rule R191: the one operation of the state machine that a non-reset cycle takes, if any. -/
def decodeArq (p : Params) (pv : BitVec 8) (rx : Datagram) (memData : Byte) (g : GuardView) : Option Instr :=
  match selState g.sel with
  | .idle | .done | .error => none
  | .awaitingSend =>
    if selMemPend g.sel then
      if pvMemErr pv then some .memErr
      else if pvMemRspValid pv then some (.memByte memData)
      else none
    else if selPktReady g.sel then
      if pvTxErr pv then some .txErr
      else if pvTxDone pv then some .txDoneFirst
      else none
    else none
  | .awaitingAck =>
    if pvRxErr pv then some .rxErr
    else if pvRxValid pv then
      if rx.acknowledges p g.seq then some (.rxAckMatch rx) else some (.rxMismatch rx)
    else if pvMsTick pv then
      if 1 < g.timer.toNat then some .msTick else some .tickExpire
    else none
  | .confirmed | .abandoned => decodeState g.sel
  | .retry =>
    if pvTxErr pv then some .txErr
    else if pvTxDone pv then some .txDoneRetry
    else none

/-- The row beside the others: ms_tick in a non-reset cycle that starts BUSY (rules R191 and R246). -/
def decodeBeside (pv : BitVec 8) (sel : BitVec 5) : Option Instr :=
  if !pvRst pv && pvMsTick pv && (selState sel).busy then some .tickElapsed else none

/-- F-DATA (rule R112): two bytes of sequence number, the flag, and the rest of the
PACKET_SIZE bytes: what a header longer than three bytes holds after the flag (log 3), and the payload. -/
def decodePacket (p : Params) (bytes : List Byte) : Except DecodeError Instr :=
  match bytes with
  | hi :: lo :: flag :: payload =>
    if 3 + payload.length ≠ p.packetSize then .error .packetLength
    else if flag = 0x00 then .ok (.dataPkt (hi ++ lo) false payload)
    else if flag = 0x01 then .ok (.dataPkt (hi ++ lo) true payload)
    else .error .packetFlag
  | _ => .error .packetLength

/-- F-ACK (rule R113): exactly ACK_SIZE bytes, of which the block sees the first two. -/
def decodeDatagram (p : Params) (bytes : List Byte) : Except DecodeError Instr :=
  match bytes with
  | b0 :: b1 :: rest => if 2 + rest.length = p.ackSize then .ok (.ackPkt (b0 ++ b1)) else .error .datagramLength
  | _ => .error .datagramLength

/-- F-EVENT (rule R118): E = ev_code[2:0], ev_arg[15:0]. -/
def decodeEvent (e : BitVec 19) : Except DecodeError Instr :=
  let arg := e.extractLsb' 0 16
  match (e.extractLsb' 16 3).toNat with
  | 1 => .ok (.evSent arg)
  | 2 => .ok (.evTimeout arg)
  | 3 => .ok (.evResend arg)
  | 4 => .ok (.evAckAccepted arg)
  | 5 => .ok (.evGiveUp arg)
  | 6 =>
    if 16 ≤ arg.toNat then .error .fatalArgument
    else if 7 ≤ arg.toNat then .error .reservedErrCode
    else .ok (.evFatal (arg.extractLsb' 0 4))
  | _ => .error .reservedEvent

/-- An operation where there is one, and otherwise the given reason. -/
def orError (e : DecodeError) : Option Instr → Except DecodeError Instr
  | some i => .ok i
  | none => .error e

/-- The decoder (rules R111, R117, R119 and R121). rst beats every other input of the sample (rules R191 and R341). -/
def decode (p : Params) : Code → Except DecodeError Instr
  | .csr a => .ok (decodeCsr a)
  | .port pv rx memData g => if pvRst pv then .ok .reset else orError .noOperation (decodeArq p pv rx memData g)
  | .beside pv sel => orError .noOperation (decodeBeside pv sel)
  | .state sel => orError .portSelected (decodeState sel)
  | .packet bytes => decodePacket p bytes
  | .datagram bytes => decodeDatagram p bytes
  | .event e => decodeEvent e

/-! ## Encoding -/

/-- A = csr_we, csr_off, csr_wdata (rule R114). -/
def csrWord (we : Bool) (off : BitVec 4) (wdata : BitVec 32) : BitVec 37 := BitVec.ofBool we ++ off ++ wdata

/-- E = ev_code, ev_arg (rule R118). -/
def eventWord (code : BitVec 3) (arg : BitVec 16) : BitVec 19 := code ++ arg

/-- The words of an operation, written from rules R112 to R119 and the table's patterns with every don't-care bit 0. A
row that a guard selects is encoded in the state bits `g` in which it is to be taken. -/
def encode (p : Params) (g : GuardView) : Instr → Code
  | .csrRd off w => .csr (csrWord false off w)
  | .csrWrCtrl w => .csr (csrWord true 0 w)
  | .start w => .csr (csrWord true 0 w)
  | .csrWrStatus w => .csr (csrWord true 1 w)
  | .csrWrSrcBase w => .csr (csrWord true 2 w)
  | .csrWrSrcLen w => .csr (csrWord true 3 w)
  | .csrWrTimeout w => .csr (csrWord true 4 w)
  | .csrWrRo off w => .csr (csrWord true off w)
  | .reset => .port 0x80 ⟨0, 0, 0⟩ 0 g
  | .memByte data => .port 0x04 ⟨0, 0, 0⟩ data g
  | .memErr => .port 0x02 ⟨0, 0, 0⟩ 0 g
  | .txDoneFirst => .port 0x40 ⟨0, 0, 0⟩ 0 g
  | .txDoneRetry => .port 0x40 ⟨0, 0, 0⟩ 0 g
  | .txErr => .port 0x20 ⟨0, 0, 0⟩ 0 g
  | .rxAckMatch d => .port 0x10 d 0 g
  | .rxMismatch d => .port 0x10 d 0 g
  | .rxErr => .port 0x08 ⟨0, 0, 0⟩ 0 g
  | .msTick => .port 0x01 ⟨0, 0, 0⟩ 0 g
  | .tickExpire => .port 0x01 ⟨0, 0, 0⟩ 0 g
  | .tickElapsed => .beside 0x01 g.sel
  | .confirm => .state g.sel
  | .abandon => .state g.sel
  | .dataPkt seq last payload => .packet (headerBytes seq last ++ payload)
  | .ackPkt ackv => .datagram ((ackDatagram p ackv).b0 :: (ackDatagram p ackv).b1 :: List.replicate (p.ackSize - 2) 0)
  | .evSent seq => .event (eventWord 1 seq)
  | .evTimeout seq => .event (eventWord 2 seq)
  | .evResend seq => .event (eventWord 3 seq)
  | .evAckAccepted seq => .event (eventWord 4 seq)
  | .evGiveUp seq => .event (eventWord 5 seq)
  | .evFatal code => .event (eventWord 6 (code.setWidth 16))

/-- The guard column of rule R121 on the bits of `g`, in the order of rule R191: where MEM_PEND = 1 the memory port is
served first. Rows that no guard selects are taken in every state. -/
def Instr.guard (p : Params) (g : GuardView) : Instr → Bool
  | .memByte _ | .memErr => selState g.sel == .awaitingSend && selMemPend g.sel
  | .txDoneFirst => selState g.sel == .awaitingSend && !selMemPend g.sel && selPktReady g.sel
  | .txDoneRetry => selState g.sel == .retry
  | .txErr =>
    selState g.sel == .awaitingSend && !selMemPend g.sel && selPktReady g.sel || selState g.sel == .retry
  | .rxAckMatch d => selState g.sel == .awaitingAck && d.acknowledges p g.seq
  | .rxMismatch d => selState g.sel == .awaitingAck && !d.acknowledges p g.seq
  | .rxErr => selState g.sel == .awaitingAck
  | .msTick => selState g.sel == .awaitingAck && decide (1 < g.timer.toNat)
  | .tickExpire => selState g.sel == .awaitingAck && decide (g.timer.toNat ≤ 1)
  | .tickElapsed => (selState g.sel).busy
  | .confirm => selState g.sel == .confirmed
  | .abandon => selState g.sel == .abandoned
  | .csrRd _ _ | .csrWrCtrl _ | .start _ | .csrWrStatus _ | .csrWrSrcBase _ | .csrWrSrcLen _ | .csrWrTimeout _
  | .csrWrRo _ _ | .reset | .dataPkt _ _ _ | .ackPkt _ | .evSent _ | .evTimeout _ | .evResend _ | .evAckAccepted _
  | .evGiveUp _ | .evFatal _ => true

/-- The table's PV pattern of each row of format F-PORT, as the mask of its fixed bits and their values. -/
def Instr.pvPattern : Instr → Option (BitVec 8 × BitVec 8)
  | .reset => some (0x80, 0x80)          -- 1xxxxxxx
  | .memByte _ => some (0x86, 0x04)      -- 0xxxx10x
  | .memErr => some (0x82, 0x02)         -- 0xxxxx1x
  | .txDoneFirst => some (0xE0, 0x40)    -- 010xxxxx
  | .txDoneRetry => some (0xE0, 0x40)    -- 010xxxxx
  | .txErr => some (0xA0, 0x20)          -- 0x1xxxxx
  | .rxAckMatch _ => some (0x98, 0x10)   -- 0xx10xxx
  | .rxMismatch _ => some (0x98, 0x10)   -- 0xx10xxx
  | .rxErr => some (0x88, 0x08)          -- 0xxx1xxx
  | .msTick => some (0x99, 0x01)         -- 0xx00xx1
  | .tickExpire => some (0x99, 0x01)     -- 0xx00xx1
  | .tickElapsed => some (0x81, 0x01)    -- 0xxxxxx1
  | .csrRd _ _ | .csrWrCtrl _ | .start _ | .csrWrStatus _ | .csrWrSrcBase _ | .csrWrSrcLen _ | .csrWrTimeout _
  | .csrWrRo _ _ | .confirm | .abandon | .dataPkt _ _ _ | .ackPkt _ | .evSent _ | .evTimeout _ | .evResend _
  | .evAckAccepted _ | .evGiveUp _ | .evFatal _ => none

/-! ## The host's table words -/

/-- State bits in which a port word of the table is tried, one for each guard that a row of format F-PORT names first in
the order of rule R191: the memory port, the first transmission, the wait (with time left), the retransmission. -/
def portContexts : List GuardView :=
  [⟨selector .awaitingSend false true, 0, 0⟩, ⟨selector .awaitingSend true false, 0, 0⟩,
   ⟨selector .awaitingAck true false, 2, 0⟩, ⟨selector .retry true false, 0, 0⟩]

/-- A PV byte with no state and all its data fields 0: the first operation it selects in one of those states. The rows
that share a pattern (log 9) cannot be told apart by such a word. -/
def decodePortWord (pv : BitVec 8) : Option Instr :=
  if pvRst pv then some .reset else portContexts.findSome? (decodeArq {} pv ⟨0, 0, 0⟩ 0)

/-- A table word of one byte: the selector S in its low five bits where those select by themselves (R119), and PV
otherwise (R117). The bytes read as S hold two strobes of different ports as a PV, and no row's pattern needs them (log 9). -/
def decodeByteWord (w : Nat) : Option Instr :=
  if w < 2 ^ 5 then
    match decodeState (BitVec.ofNat 5 w) with
    | some i => some i
    | none => decodePortWord (BitVec.ofNat 8 w)
  else if w < 2 ^ 8 then decodePortWord (BitVec.ofNat 8 w)
  else none

/-- The big-endian bytes of a word of `n` bytes, before `bs`: byte 0 is the most significant (rule R117: the table writes
its patterns most significant bit first). -/
def bytesOfNat : Nat → Nat → List Byte → List Byte
  | 0, _, bs => bs
  | n + 1, w, bs => bytesOfNat n (w / 256) (BitVec.ofNat 8 (w % 256) :: bs)

/-- What a decoder answered, with its reason dropped. -/
def answer : Except DecodeError Instr → Option Instr
  | .ok i => some i
  | .error _ => none

/-- The operation of a word of the opcode table: its width says its format (rule R111; log 9). -/
def decodeTableWord (nbits w : Nat) : Option Instr :=
  if nbits = 37 ∨ nbits = 40 then
    if w < 2 ^ 37 then some (decodeCsr (BitVec.ofNat 37 w)) else none
  else if nbits = 8 then decodeByteWord w
  else if nbits = 5 then if w < 2 ^ 5 then decodeState (BitVec.ofNat 5 w) else none
  else if nbits = 16 then if w < 2 ^ 16 then answer (decodeDatagram {} (bytesOfNat 2 w [])) else none
  else if nbits = 19 ∨ nbits = 24 then
    if w < 2 ^ 19 then answer (decodeEvent (BitVec.ofNat 19 w)) else none
  else if nbits = 8192 then answer (decodePacket {} (bytesOfNat 1024 w []))
  else none

end Sys2Proof
end

