-- ==== Sys2Proof/Machine/State.lean ====
section
/-! DEFINITION. The machine's state: the elements of rule R21, each under its own name, and the model's own fields (the
parameters, the pending input samples, the cycle counter and the outputs of the last cycle). Plain data throughout. -/

namespace Sys2Proof.Machine

/-- A byte memory as address and byte pairs in one canonical form (`Memory.wf`). The block's only memory is PKT_BUF. -/
abbrev Memory := List Host.Cell

/-- What an unlisted address reads as. Frame setup writes 0x00 to every byte it writes no header to (R165), so an
unlisted byte of a buffer that has been set up is a zero byte. Before the first setup the spec leaves the contents
unspecified (R57, I9) and 0x00 is the model's value. DESIGN CHOICE, log 2. -/
def Memory.unlisted : Byte := 0

/-- The canonical form: addresses strictly rising, and no entry equal to what an unlisted address reads as. -/
abbrev Memory.wf (m : Memory) : Prop :=
  m.Pairwise (fun c d => c.1 < d.1) ∧ ∀ c ∈ m, c.2 ≠ Memory.unlisted

/-- Every listed address lies below `n`. -/
abbrev Memory.within (n : Nat) (m : Memory) : Prop := ∀ c ∈ m, c.1 < n

/-- What the block drives in one cycle (rule R115): the state-only outputs of rule R116, the read data of R271, the event
port of R284, and the datagram that `send` (R13) hands to the transport. MODEL'S OWN: rule R9's step answers a state and
outputs, and the host's interface has room for a state only, so the outputs of the last cycle stand in it (log 4). -/
structure Outputs where
  csrRdata  : BitVec 32
  irq       : Bool
  memReq    : Bool
  memAddr   : BitVec 32
  txValid   : Bool
  pktRdData : Byte
  rxReady   : Bool
  evValid   : Bool
  evCode    : BitVec 3
  evArg     : BitVec 16
  /-- rx_valid = 1 and rx_ready = 1: the offered datagram is consumed in this cycle (rule R195). -/
  rxTaken   : Bool
  /-- The bytes of the datagram handed over in this cycle, if one was (rules R13 and R86). -/
  sent      : Option (List Byte)
deriving DecidableEq, Repr

/-- The outputs that rules R57 and R342 give after reset, with no access, event or datagram; mem_addr, which has no
meaning with mem_req = 0, and pkt_rd_data are 0 here. DESIGN CHOICE, log 4. -/
def Outputs.reset : Outputs :=
  { csrRdata := 0, irq := false, memReq := false, memAddr := 0, txValid := false, pktRdData := 0, rxReady := false,
    evValid := false, evCode := 0, evArg := 0, rxTaken := false, sent := none }

/-- The state. The fields from `state` to `pktBuf` are the 22 elements of rule R21; the last four are the model's own. -/
structure State where
  /-- STATE (R24). -/
  state        : ArqState
  /-- SEQ (R26). -/
  seq          : BitVec 16
  /-- OFFSET (R27). -/
  offset       : BitVec 32
  /-- FRAME_LEN (R28). -/
  frameLen     : BitVec 11
  /-- IS_LAST (R28). -/
  isLast       : Bool
  /-- LAST_ATTEMPTS (R29). -/
  lastAttempts : BitVec 16
  /-- RETX (R30). -/
  retx         : BitVec 32
  /-- TIMER (R31). -/
  timer        : BitVec 31
  /-- ELAPSED (R32). -/
  elapsed      : BitVec 32
  /-- BYTES (R33). -/
  bytes        : BitVec 32
  /-- ABANDONED, the flag (R34). -/
  abandoned    : Bool
  /-- ERR_CODE (R35, R301). -/
  errCode      : BitVec 4
  /-- ERR_STATE (R35). -/
  errState     : ArqState
  /-- IRQ_PEND (R36). -/
  irqPend      : Bool
  /-- IRQ_EN (R36). -/
  irqEn        : Bool
  /-- PKT_READY (R37). -/
  pktReady     : Bool
  /-- MEM_PEND (R37). -/
  memPend      : Bool
  /-- MEM_IDX (R37). -/
  memIdx       : BitVec 11
  /-- SRC_BASE (R38). -/
  srcBase      : BitVec 32
  /-- SRC_LEN (R38). -/
  srcLen       : BitVec 32
  /-- TIMEOUT_MS (R38). -/
  timeoutMs    : BitVec 32
  /-- PKT_BUF (R39). -/
  pktBuf       : Memory
  /-- The implementation parameters (R7, D48), which no step changes. MODEL'S OWN, log 3. -/
  params       : Params
  /-- The input samples of the coming cycles, the next one first. MODEL'S OWN, log 1. -/
  inputs       : List Sample
  /-- Cycles run, the argument of the free values. MODEL'S OWN, log 1. -/
  cycle        : Nat
  /-- The outputs driven in the last cycle. MODEL'S OWN, log 4. -/
  out          : Outputs
deriving DecidableEq, Repr

/-- Why a step stops with a fault. -/
inductive Fault where
  /-- A write to PKT_BUF[index] with index ≥ PACKET_SIZE, which rule R39 gives no byte for. Raised by MEM_BYTE alone, and
  only in states that no run reaches (`BlockInv` keeps MEM_IDX below FRAME_LEN). SAFE: the machine stops where the spec says
  nothing. Log 7. -/
  | pktBufIndex (index : Nat)
deriving DecidableEq, Repr

/-- Why a step refuses. -/
inductive Refusal where
  /-- An operation with no meaning yet, raised by exec's arm. No arm raises it in this model. SAFE. -/
  | notModelled (mnemonic : String)
deriving DecidableEq, Repr

/-- The machine right after reset (rules R57 and R342): every element 0, STATE = IDLE. PKT_BUF, which the spec leaves
unspecified, lists nothing (DESIGN CHOICE, log 2); the model's own fields are the default parameters, no pending sample
and cycle 0 (DESIGN CHOICE, logs 1, 3, 4). -/
def State.reset : State :=
  { state := .idle, seq := 0, offset := 0, frameLen := 0, isLast := false, lastAttempts := 0, retx := 0, timer := 0,
    elapsed := 0, bytes := 0, abandoned := false, errCode := 0, errState := .idle, irqPend := false, irqEn := false,
    pktReady := false, memPend := false, memIdx := 0, srcBase := 0, srcLen := 0, timeoutMs := 0, pktBuf := [],
    params := {}, inputs := [], cycle := 0, out := Outputs.reset }

end Sys2Proof.Machine
end

