-- ==== Sys2Proof/Machine/Flags.lean ====
section
/-! DEFINITION. The flags and the one-bit outputs, each a function of the state (rules R25, R36, R40, R116, R162), and the
widths' arithmetic (rule R12). -/

namespace Sys2Proof.Machine

/-- sat_N(v) = min(v, 2^N - 1), as an N-bit register (rule R12). -/
def sat (n v : Nat) : BitVec n := BitVec.ofNat n (min v (2 ^ n - 1))

/-- sint32(v): the two's complement reading of a 32-bit value (rule R12). -/
def sint32 (v : BitVec 32) : Int := v.toInt

/-- BUSY(s) (rule R25). -/
def State.busy (s : State) : Bool := s.state.busy

/-- tx_valid (rules R116 and R192). -/
def State.txValid (s : State) : Bool := s.state == .awaitingSend && s.pktReady || s.state == .retry

/-- rx_ready (rules R116 and R195). -/
def State.rxReady (s : State) : Bool := s.state == .awaitingAck

/-- mem_req (rules R116 and R166). -/
def State.memReq (s : State) : Bool := s.state == .awaitingSend && s.memPend

/-- irq = IRQ_PEND and IRQ_EN (rules R36 and R283). -/
def State.irq (s : State) : Bool := s.irqPend && s.irqEn

/-- is_last(offset, len), compared as unbounded integers (rule R162). -/
def isLastAt (p : Params) (offset len : Nat) : Bool := decide (len ≤ offset + p.payloadSize)

end Sys2Proof.Machine
end

