-- ==== Sys2Proof/Machine/Operands.lean ====
section
/-! DEFINITION. How each operand is formed or extracted (rule R120), the values a host read returns (rules R42 to R56 and
R271), the memory address (R166), and what the guards of rule R191 read. -/

namespace Sys2Proof.Machine

/-- frame_len(offset, len, last) (rule R163). -/
def frameLenAt (p : Params) (offset len : Nat) (last : Bool) : Nat := if last then len - offset else p.payloadSize

/-- SEQ + 1 mod 2^SEQ_W (rules R26 and R202). -/
def nextSeq (p : Params) (seq : BitVec 16) : BitVec 16 := BitVec.ofNat 16 ((seq.toNat + 1) % 2 ^ p.seqW)

/-- The TIMER load, TIMEOUT_MS[30:0] (rules R120 and R241). -/
def timerLoad (timeoutMs : BitVec 32) : BitVec 31 := timeoutMs.extractLsb' 0 31

/-- The argument of FATAL: 12'b0, ERR_CODE (rules R118 and R120). -/
def fatalArg (code : BitVec 4) : BitVec 16 := 0#12 ++ code

/-- mem_addr = (SRC_BASE + OFFSET + MEM_IDX) mod 2^32 (rules R120 and R166). -/
def State.memAddr (s : State) : BitVec 32 :=
  BitVec.ofNat 32 (s.srcBase.toNat + s.offset.toNat + s.memIdx.toNat)

/-- The bits that the guards of rule R191 read. -/
def State.guardView (s : State) : GuardView :=
  { sel := selector s.state s.pktReady s.memPend, timer := s.timer, seq := s.seq }

/-- CTRL as read: START reads 0 (rule R42). -/
def State.ctrlWord (s : State) : BitVec 32 := 0#30 ++ BitVec.ofBool s.irqEn ++ 0#1

/-- STATUS as read (rule R43). -/
def State.statusWord (s : State) : BitVec 32 :=
  0#15 ++ BitVec.ofBool s.irqPend ++ 0#1 ++ s.errState.bits ++ s.errCode ++ BitVec.ofBool (s.state == .error)
    ++ BitVec.ofBool s.abandoned ++ BitVec.ofBool (s.state == .done) ++ BitVec.ofBool s.busy ++ 0#1 ++ s.state.bits

/-- FRAME as read (rule R53). -/
def State.frameWord (s : State) : BitVec 32 :=
  0#5 ++ s.memIdx ++ 0#2 ++ BitVec.ofBool s.memPend ++ BitVec.ofBool s.pktReady ++ BitVec.ofBool s.isLast ++ s.frameLen

/-- PARAM, constant: LAST_RETRY_LIMIT[15:0], 5'b0, PAYLOAD_SIZE[10:0] (rule R55). -/
def paramWord (p : Params) : BitVec 32 :=
  BitVec.ofNat 16 p.lastRetryLimit ++ 0#5 ++ BitVec.ofNat 11 p.payloadSize

/-- read_value(off, s) (rule R271): every offset is decoded, and 0xE and 0xF read 0 (rule R56). -/
def State.readValue (s : State) (off : BitVec 4) : BitVec 32 :=
  match off.toNat with
  | 0x0 => s.ctrlWord
  | 0x1 => s.statusWord
  | 0x2 => s.srcBase
  | 0x3 => s.srcLen
  | 0x4 => s.timeoutMs
  | 0x5 => 0#16 ++ s.seq
  | 0x6 => s.offset
  | 0x7 => s.retx
  | 0x8 => 0#16 ++ s.lastAttempts
  | 0x9 => s.elapsed
  | 0xA => s.bytes
  | 0xB => s.frameWord
  | 0xC => 0#1 ++ s.timer
  | 0xD => paramWord s.params
  | _ => 0

/-- The word offset of a byte address on the host bus: the byte offset from CSR_BASE, divided by 4 (rules R41, R82, R90).
An address outside the 64 bytes at CSR_BASE is not an access to the block (log 12). Rules R41 and R82 also speak of address
bits [5:2] and [1:0], which are the offset's bits only where CSR_BASE is a multiple of 64, and the spec does not state its
alignment: for any other base this takes the offset, not the address bits. DESIGN CHOICE, log 23. -/
def wordOffset (addr : Nat) : Option (BitVec 4) :=
  if Config.csrBase ≤ addr ∧ addr < Config.csrBase + 64 then some (BitVec.ofNat 4 ((addr - Config.csrBase) / 4)) else none

/-- The host's throughput calculation, in KiB per second, from BYTES and ELAPSED in ms; UNDEFINED, a distinct result, when
ELAPSED is 0 (rule R250). It is the host's and no operation calls it (log 16). -/
def throughput (bytes elapsed : BitVec 32) : Option Rat :=
  if elapsed = 0 then none else some ((bytes.toNat / 1024 : Rat) / (elapsed.toNat / 1000 : Rat))

end Sys2Proof.Machine
end

