-- ==== Sys2Proof/Machine/Ops.lean ====
section
/-! DEFINITION. The operations the meanings share: bytes of memory, the packet buffer, `emit` and `send` (rule R13), the
fatal-error entry (R304) with the way out of it beside it (R276), and the procedures of rule R121: frame_setup, arm_timer,
negative and complete. -/

namespace Sys2Proof.Machine

/-! ## Outcomes -/

/-- The next operation of the same cycle, where the one before it did not stop. -/
def andThen (o : Host.Outcome State Fault Refusal) (f : State → Host.Outcome State Fault Refusal) :
    Host.Outcome State Fault Refusal :=
  match o with
  | .next s => f s
  | .fault r => .fault r
  | .refused r => .refused r

/-! ## Bytes of memory -/

/-- The byte at an address. -/
def Memory.read : Memory → Nat → Byte
  | [], _ => Memory.unlisted
  | (a, b) :: m, i => if a = i then b else Memory.read m i

/-- A byte written, with the canonical form kept: writing what an unlisted address reads as removes the entry. -/
def Memory.write : Memory → Nat → Byte → Memory
  | [], i, v => if v = Memory.unlisted then [] else [(i, v)]
  | (a, b) :: m, i, v =>
    if i < a then if v = Memory.unlisted then (a, b) :: m else (i, v) :: (a, b) :: m
    else if i = a then if v = Memory.unlisted then m else (i, v) :: m
    else (a, b) :: Memory.write m i v

/-! ## The packet buffer (rules R39, R85 and R116) -/

/-- pkt_rd_data at an index. -/
def State.pktRead (s : State) (i : Nat) : Byte :=
  if i < s.params.packetSize then s.pktBuf.read i else Config.freePktByte i

/-- PKT_BUF[i] <- b; there is no byte at or above PACKET_SIZE (rule R39). -/
def State.pktWrite (s : State) (i : Nat) (b : Byte) : Host.Outcome State Fault Refusal :=
  if i < s.params.packetSize then .next { s with pktBuf := s.pktBuf.write i b } else .fault (.pktBufIndex i)

/-- PKT_BUF[0..PACKET_SIZE-1] as the transport takes them (rule R86). -/
def State.packet (s : State) : List Byte := (List.range s.params.packetSize).map s.pktBuf.read

/-- A buffer that holds the header of rule R164 and 0x00 in every other byte (rule R165). -/
def headerBuffer (seq : BitVec 16) (last : Bool) : Memory :=
  ((headerBytes seq last).zipIdx).foldl (fun m c => m.write c.2 c.1) []

/-! ## Outputs -/

/-- `emit EV(code, arg)` (rules R13 and R284). -/
def State.emit (s : State) (code : BitVec 3) (arg : BitVec 16) : State :=
  { s with out := { s.out with evValid := true, evCode := code, evArg := arg } }

/-- `send(PKT_BUF)`: the transport takes the packet's bytes as one datagram (rule R13). -/
def State.send (s : State) : State := { s with out := { s.out with sent := some s.packet } }

/-! ## The fatal-error entry, and the way out -/

/-- Fatal(code), the one exception of the block (rule R304): what is saved is the cause and the STATE it was taken in.
Every caller calls it before anything of the cycle has changed STATE, so `s.state` is STATE at the start of the cycle. -/
def State.fatal (s : State) (code : BitVec 4) : State :=
  { s with errState := s.state, errCode := code, irqPend := true, state := .error }.emit 6 (fatalArg code)

/-- start_init(), with which START leaves ERROR or DONE (rules R276 and R309): there is no other return from a fatal
error but reset. -/
def State.startInit (s : State) : State :=
  { s with seq := 0, offset := 0, retx := 0, elapsed := 0, bytes := 0, abandoned := false, errCode := 0,
           errState := .idle, irqPend := false, lastAttempts := 0, timer := 0, frameLen := 0, isLast := false,
           pktReady := false, memPend := false, memIdx := 0 }

/-- check(), START's configuration check: the first that fails gives the code (rule R275). -/
def State.check (s : State) : BitVec 4 :=
  if sint32 s.timeoutMs ≤ 0 then 1
  else if s.params.maxLen < s.srcLen.toNat then 2
  else if 2 ^ 32 < s.srcBase.toNat + s.srcLen.toNat then 3
  else 0

/-! ## The procedures of rule R121 -/

/-- The frame setup of rule R161 for a frame of `len` payload bytes. -/
def State.setupFrame (s : State) (last : Bool) (len : BitVec 11) : State :=
  { s with isLast := last, frameLen := len, lastAttempts := 0, pktBuf := headerBuffer s.seq last, memIdx := 0,
           memPend := len != 0, pktReady := len == 0, state := .awaitingSend }

/-- frame_setup() (rule R161), with is_last and frame_len of the current OFFSET (rules R162 and R163). -/
def State.frameSetup (s : State) : State :=
  let last := isLastAt s.params s.offset.toNat s.srcLen.toNat
  s.setupFrame last (BitVec.ofNat 11 (frameLenAt s.params s.offset.toNat s.srcLen.toNat last))

/-- arm_timer(): the full TIMEOUT_MS for every attempt, with no backoff (rules R241 and R245). -/
def State.armTimer (s : State) : State := { s with timer := timerLoad s.timeoutMs }

/-- The end of both transmit operations: the timer is armed and the block waits (rules R193 and R194). -/
def State.awaitAck (s : State) : State := { s.armTimer with state := .awaitingAck }

/-- The decision to retransmit: RETX counts it, saturating (rule R200). -/
def State.toRetry (s : State) : State := { s with retx := sat 32 (s.retx.toNat + 1), state := .retry }

/-- negative(cause), which does not depend on its cause (rule R200). -/
def State.negative (s : State) : State :=
  if s.isLast then
    let attempts := sat 16 (s.lastAttempts.toNat + 1)
    if s.params.lastRetryLimit < attempts.toNat then { s with lastAttempts := attempts, state := .abandoned }
    else { s with lastAttempts := attempts }.toRetry
  else s.toRetry

/-- The acceptance of a matching acknowledgment (rule R198). -/
def State.accept (s : State) : State := { s with state := .confirmed }.emit 4 s.seq

/-- complete() (rule R205). -/
def State.complete (s : State) : State := { s with bytes := s.srcLen, irqPend := true, state := .done }

end Sys2Proof.Machine
end

