-- ==== Sys2Proof/Machine/Arq.lean ====
section
/-! DEFINITION. The ARQ state machine (rules R193, R194, R198, R199, R202 and R203). Outside its guard an operation is not
selected and nothing changes (rule R123; log 18). -/

namespace Sys2Proof.Machine

/-- TX_DONE_FIRST (R193). -/
def execTxDoneFirst (s : State) : Host.Outcome State Fault Refusal :=
  .next (if s.state == .awaitingSend && s.pktReady then (s.send.emit 1 s.seq).awaitAck else s)

/-- TX_DONE_RETRY (R194): RETX was counted when RETRY was entered. -/
def execTxDoneRetry (s : State) : Host.Outcome State Fault Refusal :=
  .next (if s.state == .retry then (s.send.emit 3 s.seq).awaitAck else s)

/-- RX_ACK_MATCH (R198), under match (R197). -/
def execRxAckMatch (d : Datagram) (s : State) : Host.Outcome State Fault Refusal :=
  .next (if s.rxReady && d.acknowledges s.params s.seq then s.accept else s)

/-- RX_MISMATCH (R199), under not match: a negative outcome, with no event. -/
def execRxMismatch (d : Datagram) (s : State) : Host.Outcome State Fault Refusal :=
  .next (if s.rxReady && !d.acknowledges s.params s.seq then s.negative else s)

/-- CONFIRM (R202): SEQ goes up by one mod 2^SEQ_W; the last frame completes the transfer, another is followed by the next
frame's setup with the new SEQ and OFFSET. Sums take the low bits (log 11). -/
def execConfirm (s : State) : Host.Outcome State Fault Refusal :=
  .next (
    if s.state == .confirmed then
      if s.isLast then
        { s with seq := nextSeq s.params s.seq, offset := BitVec.ofNat 32 (s.offset.toNat + s.frameLen.toNat) }.complete
      else { s with seq := nextSeq s.params s.seq, offset := BitVec.ofNat 32 (s.offset.toNat + s.params.payloadSize) }.frameSetup
    else s)

/-- ABANDON (R203): SEQ and OFFSET still name the abandoned frame. -/
def execAbandon (s : State) : Host.Outcome State Fault Refusal :=
  .next (if s.state == .abandoned then { s.emit 5 s.seq with abandoned := true }.complete else s)

end Sys2Proof.Machine
end

