-- ==== Sys2Proof/Machine/Errors.lean ====
section
/-! DEFINITION. The transport's fatal errors (rules R305 and R306). Each is an error only inside its handshake (R123). -/

namespace Sys2Proof.Machine

/-- TX_ERR (R305): TX_FAIL, under tx_valid = 1. -/
def execTxErr (s : State) : Host.Outcome State Fault Refusal := .next (if s.txValid then s.fatal 4 else s)

/-- RX_ERR (R306): RX_FAIL, under rx_ready = 1; a datagram offered with it is discarded. -/
def execRxErr (s : State) : Host.Outcome State Fault Refusal := .next (if s.rxReady then s.fatal 5 else s)

end Sys2Proof.Machine
end

