-- ==== Sys2Proof/Machine/Events.lean ====
section
/-! DEFINITION. The event words as operations: each drives the event port for this cycle with its code and argument
(rules R13, R118 and R284). The operations that emit an event do so through the same `State.emit`. DESIGN CHOICE, log 8. -/

namespace Sys2Proof.Machine

/-- EV_SENT: code 1 (R118, emitted by R193). -/
def execEvSent (seq : BitVec 16) (s : State) : Host.Outcome State Fault Refusal := .next (s.emit 1 seq)

/-- EV_TIMEOUT: code 2 (R118, emitted by R243). -/
def execEvTimeout (seq : BitVec 16) (s : State) : Host.Outcome State Fault Refusal := .next (s.emit 2 seq)

/-- EV_RESEND: code 3 (R118, emitted by R194). -/
def execEvResend (seq : BitVec 16) (s : State) : Host.Outcome State Fault Refusal := .next (s.emit 3 seq)

/-- EV_ACK_ACCEPTED: code 4 (R118, emitted by R198). -/
def execEvAckAccepted (seq : BitVec 16) (s : State) : Host.Outcome State Fault Refusal := .next (s.emit 4 seq)

/-- EV_GIVE_UP: code 5 (R118, emitted by R203). -/
def execEvGiveUp (seq : BitVec 16) (s : State) : Host.Outcome State Fault Refusal := .next (s.emit 5 seq)

/-- EV_FATAL: code 6, with ERR_CODE zero-extended (R118, emitted by R304). -/
def execEvFatal (code : BitVec 4) (s : State) : Host.Outcome State Fault Refusal := .next (s.emit 6 (fatalArg code))

end Sys2Proof.Machine
end

