-- ==== Sys2Proof/Machine/Framer.lean ====
section
/-! DEFINITION. The framer's payload read (rules R167 and R168). Outside its guard an operation is not selected and
nothing changes (rule R123; log 18). -/

namespace Sys2Proof.Machine

/-- The effect of MEM_BYTE after its byte is in the buffer: MEM_IDX moves on, and the last byte makes the packet ready. -/
def State.advanceIndex (s : State) : State :=
  let idx := BitVec.ofNat 11 (s.memIdx.toNat + 1)
  if idx = s.frameLen then { s with memIdx := idx, memPend := false, pktReady := true } else { s with memIdx := idx }

/-- MEM_BYTE (R167): the payload byte goes to PKT_BUF[HEADER_SIZE + MEM_IDX]. -/
def execMemByte (data : Byte) (s : State) : Host.Outcome State Fault Refusal :=
  if s.memReq then
    andThen (s.pktWrite (s.params.headerSize + s.memIdx.toNat) data) fun t => .next t.advanceIndex
  else .next s

/-- MEM_ERR (R168): MEM_FAIL, with the partly filled buffer left as it is. -/
def execMemErr (s : State) : Host.Outcome State Fault Refusal :=
  .next (if s.memReq then s.fatal 6 else s)

end Sys2Proof.Machine
end

