-- ==== Sys2Proof/Machine/HostAccess.lean ====
section
/-! DEFINITION. The host's register accesses and the START command (rules R271 to R282). BUSY here is BUSY at the start of
the cycle: the host access is the first operation of its cycle (rule R191). -/

namespace Sys2Proof.Machine

/-- CSR_RD (R271): the value is the one at the start of the cycle; a read has no side effect (R92). -/
def execCsrRd (off : BitVec 4) (_wdata : BitVec 32) (s : State) : Host.Outcome State Fault Refusal :=
  .next { s with out := { s.out with csrRdata := s.readValue off } }

/-- CSR_WR_CTRL (R273): IRQ_EN, in every state. -/
def execCsrWrCtrl (wdata : BitVec 32) (s : State) : Host.Outcome State Fault Refusal :=
  .next { s with irqEn := wdata.getLsbD 1 }

/-- START (R274). While BUSY it writes IRQ_EN and does nothing else (R277). -/
def execStart (wdata : BitVec 32) (s : State) : Host.Outcome State Fault Refusal :=
  let s1 := { s with irqEn := wdata.getLsbD 1 }
  if s.busy then .next s1
  else
    let s2 := s1.startInit
    if s2.check = 0 then .next s2.frameSetup else .next (s2.fatal s2.check)

/-- CSR_WR_STATUS (R278): bit 16 written as 1 clears IRQ_PEND. -/
def execCsrWrStatus (wdata : BitVec 32) (s : State) : Host.Outcome State Fault Refusal :=
  .next { s with irqPend := s.irqPend && !wdata.getLsbD 16 }

/-- CSR_WR_SRC_BASE (R279), ignored while BUSY (R272). -/
def execCsrWrSrcBase (wdata : BitVec 32) (s : State) : Host.Outcome State Fault Refusal :=
  .next (if s.busy then s else { s with srcBase := wdata })

/-- CSR_WR_SRC_LEN (R280), ignored while BUSY (R272). -/
def execCsrWrSrcLen (wdata : BitVec 32) (s : State) : Host.Outcome State Fault Refusal :=
  .next (if s.busy then s else { s with srcLen := wdata })

/-- CSR_WR_TIMEOUT (R281), ignored while BUSY (R272). -/
def execCsrWrTimeout (wdata : BitVec 32) (s : State) : Host.Outcome State Fault Refusal :=
  .next (if s.busy then s else { s with timeoutMs := wdata })

/-- CSR_WR_RO (R282): no operation. -/
def execCsrWrRo (_off : BitVec 4) (_wdata : BitVec 32) (s : State) : Host.Outcome State Fault Refusal := .next s

end Sys2Proof.Machine
end

