-- ==== Sys2Proof/Machine/ResetOp.lean ====
section
/-! DEFINITION. The synchronous reset (rules R341, R342 and R353). -/

namespace Sys2Proof.Machine

/-- RESET (R341): every element of rule R21 but PKT_BUF takes its reset value (R57). PKT_BUF and the model's own fields
are not written (log 19). -/
def execReset (s : State) : Host.Outcome State Fault Refusal :=
  .next { State.reset with pktBuf := s.pktBuf, params := s.params, inputs := s.inputs, cycle := s.cycle, out := s.out }

end Sys2Proof.Machine
end

