-- ==== Sys2Proof/Machine/Timer.lean ====
section
/-! DEFINITION. The timeout controller and the elapsed-time counter (rules R242, R243 and R246). Outside its guard an
operation is not selected and nothing changes (rules R123 and R244; log 18). -/

namespace Sys2Proof.Machine

/-- MS_TICK (R242): a tick while waiting, with time left. -/
def execMsTick (s : State) : Host.Outcome State Fault Refusal :=
  .next (if s.state == .awaitingAck && decide (1 < s.timer.toNat) then { s with timer := s.timer - 1 } else s)

/-- TICK_EXPIRE (R243): the wait ends without data; a recoverable condition, not an error (R302). -/
def execTickExpire (s : State) : Host.Outcome State Fault Refusal :=
  .next (
    if s.state == .awaitingAck && decide (s.timer.toNat ≤ 1) then ({ s with timer := 0 }.emit 2 s.seq).negative else s)

/-- TICK_ELAPSED (R246), saturating. -/
def execTickElapsed (s : State) : Host.Outcome State Fault Refusal :=
  .next (if s.busy then { s with elapsed := sat 32 (s.elapsed.toNat + 1) } else s)

end Sys2Proof.Machine
end

