-- ==== Sys2Proof/Machine/Wire.lean ====
section
/-! DEFINITION. The two wire formats as operations (rules R86, R112 and R113). -/

namespace Sys2Proof.Machine

/-- DATA_PKT (R112): the datagram goes to the transport exactly when it is the packet on offer, that is with tx_valid = 1
and PKT_BUF holding its bytes (R192); otherwise nothing is sent. The transmit operations of R193 and R194 send this way.
DESIGN CHOICE, log 8. -/
def execDataPkt (seq : BitVec 16) (last : Bool) (payload : List Byte) (s : State) : Host.Outcome State Fault Refusal :=
  .next (if s.txValid && s.packet == headerBytes seq last ++ payload then s.send else s)

/-- ACK_PKT (R113): the well-formed acknowledgment at the RX port. It is consumed only in AWAITING_ACK (R195), where it matches
(R197, R198) or is a negative outcome (R199); elsewhere it stays with the transport. -/
def execAckPkt (ackv : BitVec 16) (s : State) : Host.Outcome State Fault Refusal :=
  .next (
    if s.rxReady then if ackv = s.seq then s.accept else s.negative
    else s)

end Sys2Proof.Machine
end

