-- ==== Sys2Proof/Machine/Dispatch.lean ====
section
/-! DEFINITION. One arm per constructor of Instr, each one direct call of its meaning. -/

namespace Sys2Proof.Machine

def exec (i : Instr) (s : State) : Host.Outcome State Fault Refusal :=
  match i with
  | .csrRd off w => Sys2Proof.Machine.execCsrRd off w s
  | .csrWrCtrl w => Sys2Proof.Machine.execCsrWrCtrl w s
  | .start w => Sys2Proof.Machine.execStart w s
  | .csrWrStatus w => Sys2Proof.Machine.execCsrWrStatus w s
  | .csrWrSrcBase w => Sys2Proof.Machine.execCsrWrSrcBase w s
  | .csrWrSrcLen w => Sys2Proof.Machine.execCsrWrSrcLen w s
  | .csrWrTimeout w => Sys2Proof.Machine.execCsrWrTimeout w s
  | .csrWrRo off w => Sys2Proof.Machine.execCsrWrRo off w s
  | .reset => Sys2Proof.Machine.execReset s
  | .memByte data => Sys2Proof.Machine.execMemByte data s
  | .memErr => Sys2Proof.Machine.execMemErr s
  | .txDoneFirst => Sys2Proof.Machine.execTxDoneFirst s
  | .txDoneRetry => Sys2Proof.Machine.execTxDoneRetry s
  | .txErr => Sys2Proof.Machine.execTxErr s
  | .rxAckMatch d => Sys2Proof.Machine.execRxAckMatch d s
  | .rxMismatch d => Sys2Proof.Machine.execRxMismatch d s
  | .rxErr => Sys2Proof.Machine.execRxErr s
  | .msTick => Sys2Proof.Machine.execMsTick s
  | .tickExpire => Sys2Proof.Machine.execTickExpire s
  | .tickElapsed => Sys2Proof.Machine.execTickElapsed s
  | .confirm => Sys2Proof.Machine.execConfirm s
  | .abandon => Sys2Proof.Machine.execAbandon s
  | .dataPkt seq last payload => Sys2Proof.Machine.execDataPkt seq last payload s
  | .ackPkt ackv => Sys2Proof.Machine.execAckPkt ackv s
  | .evSent seq => Sys2Proof.Machine.execEvSent seq s
  | .evTimeout seq => Sys2Proof.Machine.execEvTimeout seq s
  | .evResend seq => Sys2Proof.Machine.execEvResend seq s
  | .evAckAccepted seq => Sys2Proof.Machine.execEvAckAccepted seq s
  | .evGiveUp seq => Sys2Proof.Machine.execEvGiveUp seq s
  | .evFatal code => Sys2Proof.Machine.execEvFatal code s

end Sys2Proof.Machine
end

