-- ==== Sys2Proof/Machine/Cycle.lean ====
section
/-! DEFINITION. One clock cycle (rules R9 and R191): the sample is taken, the state-only outputs are driven, and the
selected operations run in the order of rule R191. -/

namespace Sys2Proof.Machine

/-- The inputs sampled in this cycle: the next pending sample, and a free draw where none is pending (log 1). -/
def State.sample (s : State) : Sample :=
  match s.inputs with
  | x :: _ => x
  | [] => Config.freeSample s.cycle

/-- The outputs of the cycle before any operation drives one: those of rule R116, which are functions of the state at the
start of the cycle, with no read data, no event and no datagram (rules R271 and R284). mem_addr has no meaning while
mem_req = 0 and is then a free value (R166, I15; log 5). -/
def State.portOutputs (s : State) (x : Sample) : Outputs :=
  { csrRdata := 0, irq := s.irq, memReq := s.memReq,
    memAddr := if s.memReq then s.memAddr else Config.freeMemAddr s.cycle,
    txValid := s.txValid, pktRdData := s.pktRead x.pktRdAddr.toNat, rxReady := s.rxReady, evValid := false, evCode := 0,
    evArg := 0, rxTaken := pvRxValid x.pv && s.rxReady, sent := none }

/-- The state in which the operations of the cycle run: the sample is used up and the outputs are open. Every element of
rule R21 is as at the start of the cycle. -/
def State.openCycle (s : State) (x : Sample) : State :=
  { s with inputs := s.inputs.tail, cycle := s.cycle + 1, out := s.portOutputs x }

/-- The host access of the cycle (rules R114 and R191). -/
def hostOp (x : Sample) : Option Instr := if x.csrEn then some (decodeCsr x.csr) else none

/-- TICK_ELAPSED, where the cycle starts BUSY with a tick (rules R191 and R246). -/
def elapsedOp (x : Sample) (s : State) : Option Instr := decodeBeside x.pv s.guardView.sel

/-- The operation of the state machine; every guard reads the state at the start of the cycle (rule R191). -/
def arqOp (x : Sample) (s : State) : Option Instr := decodeArq s.params x.pv x.rx x.memData s.guardView

/-- An operation that may be none. -/
def runOp (o : Option Instr) (s : State) : Host.Outcome State Fault Refusal :=
  match o with
  | some i => exec i s
  | none => .next s

/-- step(s, in) of rule R191. -/
def runCycle (s : State) (x : Sample) : Host.Outcome State Fault Refusal :=
  if pvRst x.pv then exec .reset (s.openCycle x)
  else
    andThen (runOp (hostOp x) (s.openCycle x)) fun s1 =>
      andThen (runOp (elapsedOp x s) s1) fun s2 => runOp (arqOp x s) s2

end Sys2Proof.Machine
end

