-- ==== Sys2Proof/Machine/Present.lean ====
section
/-! DEFINITION. How one operation is made the next one that a step runs: its sample becomes the next pending one, and the
state bits that its guard reads are set to select it (rule R121; log 10). -/

namespace Sys2Proof.Machine

/-- `x` as the next pending sample. -/
def State.offer (s : State) (x : Sample) : State := { s with inputs := x :: s.inputs }

/-- A cycle with one strobe byte and no other input. -/
def strobes (pv : BitVec 8) : Sample := { Sample.quiet with pv := pv }

/-- A cycle with one host access. -/
def access (a : BitVec 37) : Sample := { Sample.quiet with csrEn := true, csr := a }

/-- A cycle with one offered datagram. -/
def delivery (d : Datagram) : Sample := { Sample.quiet with pv := 0x10, rx := d }

/-- AWAITING_SEND with a payload byte wanted. -/
def State.framing (s : State) : State := { s with state := .awaitingSend, memPend := true, pktReady := false }

/-- AWAITING_SEND with the packet on offer. -/
def State.offering (s : State) : State := { s with state := .awaitingSend, memPend := false, pktReady := true }

/-- AWAITING_ACK for a given sequence number. -/
def State.waiting (s : State) (seq : BitVec 16) : State := { s with state := .awaitingAck, seq := seq }

/-- A buffer with the given bytes from index `i` on. -/
def bufferOf : Nat → List Byte → Memory
  | _, [] => []
  | i, b :: bs => (bufferOf (i + 1) bs).write i b

/-- A state whose next step runs the operation, or, for a word that an operation drives, runs that operation. -/
def State.present (s : State) : Instr → State
  | .csrRd off w => s.offer (access (csrWord false off w))
  | .csrWrCtrl w => s.offer (access (csrWord true 0 w))
  | .start w => s.offer (access (csrWord true 0 w))
  | .csrWrStatus w => s.offer (access (csrWord true 1 w))
  | .csrWrSrcBase w => s.offer (access (csrWord true 2 w))
  | .csrWrSrcLen w => s.offer (access (csrWord true 3 w))
  | .csrWrTimeout w => s.offer (access (csrWord true 4 w))
  | .csrWrRo off w => s.offer (access (csrWord true off w))
  | .reset => s.offer (strobes 0x80)
  | .memByte data => s.framing.offer { strobes 0x04 with memData := data }
  | .memErr => s.framing.offer (strobes 0x02)
  | .txDoneFirst => s.offering.offer (strobes 0x40)
  | .txDoneRetry => { s with state := .retry }.offer (strobes 0x40)
  | .txErr => s.offering.offer (strobes 0x20)
  | .rxAckMatch d => (s.waiting d.ackv).offer (delivery d)
  | .rxMismatch d => (s.waiting (if d.acknowledges s.params s.seq then d.ackv + 1 else s.seq)).offer (delivery d)
  | .rxErr => (s.waiting s.seq).offer (strobes 0x08)
  | .msTick => { s.waiting s.seq with timer := if 1 < s.timer.toNat then s.timer else 2 }.offer (strobes 0x01)
  | .tickExpire => { s.waiting s.seq with timer := if s.timer.toNat ≤ 1 then s.timer else 1 }.offer (strobes 0x01)
  | .tickElapsed => s.offering.offer (strobes 0x01)
  | .confirm => { s with state := .confirmed }.offer Sample.quiet
  | .abandon => { s with state := .abandoned }.offer Sample.quiet
  | .dataPkt seq last payload =>
    { s.offering with seq := seq, isLast := last,
                      pktBuf := bufferOf 0 (headerBytes seq last ++ payload) }.offer (strobes 0x40)
  | .ackPkt ackv => (s.waiting s.seq).offer (delivery (ackDatagram s.params ackv))
  | .evSent seq => { s.offering with seq := seq }.offer (strobes 0x40)
  | .evTimeout seq => { s.waiting seq with timer := 1 }.offer (strobes 0x01)
  | .evResend seq => { s with state := .retry, seq := seq }.offer (strobes 0x40)
  | .evAckAccepted seq => (s.waiting seq).offer (delivery (ackDatagram s.params seq))
  | .evGiveUp seq => { s with state := .abandoned, seq := seq }.offer Sample.quiet
  | .evFatal code =>
    match code.toNat with
    | 1 => { s with state := .idle, timeoutMs := 0 }.offer (access (csrWord true 0 1))
    | 2 => { s with state := .idle, timeoutMs := 1, srcLen := BitVec.ofNat 32 (s.params.maxLen + 1) }.offer
             (access (csrWord true 0 1))
    | 3 => { s with state := .idle, timeoutMs := 1, srcLen := 2, srcBase := BitVec.allOnes 32 }.offer
             (access (csrWord true 0 1))
    | 4 => s.offering.offer (strobes 0x20)
    | 5 => (s.waiting s.seq).offer (strobes 0x08)
    | 6 => s.framing.offer (strobes 0x02)
    | _ => s.offer Sample.quiet

end Sys2Proof.Machine
end

