-- ==== Sys2Proof/Machine/Step.lean ====
section
/-! DEFINITION. The step of one clock cycle, and the host's way of making a table word the next operation. -/

namespace Sys2Proof.Machine

/-- One rising edge of clk (rule R9): the cycle of rule R191 on the sample that is next. -/
def step (s : State) : Host.Outcome State Fault Refusal := runCycle s s.sample

/-- `s` with the operation of a table word as the one that the next step runs (log 10). A word that no row reads is
offered as it is, on the strobes if it is a PV byte, and selects no operation. -/
def State.withFetchWord (s : State) (nbits w : Nat) : State :=
  match decodeTableWord nbits w with
  | some i => s.present i
  | none => s.offer (if nbits = 8 then strobes (BitVec.ofNat 8 w) else Sample.quiet)

end Sys2Proof.Machine
end

