-- ==== Sys2Proof/Machine/Script.lean ====
section
/-! DEFINITION. Stimulus scripts (rules R125 and R126), the block's "programs": one line is the input sample of one
clock cycle. A script runs as the pending samples of a state. -/

namespace Sys2Proof.Machine

/-- One item of a line (rule R125); `wr` and `rd` take byte offsets. -/
inductive ScriptItem where
  | cycle
  | rst
  | wr (off : Nat) (data : BitVec 32)
  | rd (off : Nat)
  | mem (b : Byte)
  | memErr
  | txDone
  | txErr
  | rx (len : BitVec 16) (b0 b1 : Byte)
  | rxErr
  | tick
deriving DecidableEq, Repr

/-- Whether the item is a host access. -/
def ScriptItem.isAccess : ScriptItem → Bool
  | .wr _ _ | .rd _ => true
  | .cycle | .rst | .mem _ | .memErr | .txDone | .txErr | .rx _ _ _ | .rxErr | .tick => false

/-- Register offsets are byte offsets inside the window and multiples of 4 (rules R41 and R125). -/
def ScriptItem.offsetOk : ScriptItem → Bool
  | .wr off _ | .rd off => decide (off % 4 = 0 ∧ off < 64)
  | .cycle | .rst | .mem _ | .memErr | .txDone | .txErr | .rx _ _ _ | .rxErr | .tick => true

/-- The inputs an item sets in its line's cycle (rule R125). -/
def ScriptItem.drive (x : Sample) : ScriptItem → Sample
  | .cycle => x
  | .rst => { x with pv := x.pv ||| 0x80 }
  | .wr off data => { x with csrEn := true, csr := csrWord true (BitVec.ofNat 4 (off / 4)) data }
  | .rd off => { x with csrEn := true, csr := csrWord false (BitVec.ofNat 4 (off / 4)) 0 }
  | .mem b => { x with pv := x.pv ||| 0x04, memData := b }
  | .memErr => { x with pv := x.pv ||| 0x02 }
  | .txDone => { x with pv := x.pv ||| 0x40 }
  | .txErr => { x with pv := x.pv ||| 0x20 }
  | .rx len b0 b1 => { x with pv := x.pv ||| 0x10, rx := ⟨len, b0, b1⟩ }
  | .rxErr => { x with pv := x.pv ||| 0x08 }
  | .tick => { x with pv := x.pv ||| 0x01 }

/-- A line: one or more items in the same cycle, at most one of them a host access; an input not named is 0 (R125).
Items are applied from left to right, so where two of them set one data input (`MEM 1 + MEM 2`, or two `RX`) the last one
gives its value; rule R125 does not say which does. DESIGN CHOICE, log 21. -/
def scriptLine (items : List ScriptItem) : Option Sample :=
  if items ≠ [] ∧ (items.filter ScriptItem.isAccess).length ≤ 1 ∧ items.all ScriptItem.offsetOk then
    some (items.foldl ScriptItem.drive Sample.quiet)
  else none

/-! ## Pseudo-instructions (rule R126) -/

/-- `ACK s`. -/
def ackItem (seq : BitVec 16) : ScriptItem := .rx 2 (seq.extractLsb' 8 8) (seq.extractLsb' 0 8)
/-- `START`. -/
def startItem : ScriptItem := .wr 0x00 0x00000001
/-- `STARTI`. -/
def startiItem : ScriptItem := .wr 0x00 0x00000003
/-- `CONFIG b, l, t`. -/
def configLines (b l t : BitVec 32) : List (List ScriptItem) := [[.wr 0x08 b], [.wr 0x0C l], [.wr 0x10 t]]
/-- `TICKS n`. -/
def tickLines (n : Nat) : List (List ScriptItem) := List.replicate n [.tick]
/-- `CYCLES n`. -/
def cycleLines (n : Nat) : List (List ScriptItem) := List.replicate n [.cycle]

/-- `MEMFILL` in the state it starts in, on a memory image: one line for each payload byte still to be read, with the
byte at that cycle's mem_addr; none when MEM_PEND = 0. Where MEM_PEND = 1 but mem_req = 0 (in ERROR after MEM_ERR), mem_addr
has no meaning (I15) and the block takes no byte; the lines then carry the image's bytes at SRC_BASE + OFFSET + MEM_IDX and
on, as they do while mem_req = 1. DESIGN CHOICE, log 22. -/
def memFillLines (image : Nat → Byte) (s : State) : List (List ScriptItem) :=
  if s.memPend then
    (List.range (s.frameLen.toNat - s.memIdx.toNat)).map fun i => [.mem (image (s.memAddr + BitVec.ofNat 32 i).toNat)]
  else []

/-- The lines' samples, or none where a line breaks the syntax. -/
def scriptSamples (lines : List (List ScriptItem)) : Option (List Sample) := lines.mapM scriptLine

end Sys2Proof.Machine
end

