-- ==== Sys2Proof/Safety.lean ====
section
/-! DEFINITION. The terms the claims use: the invariant that rules R35, R37, R58 and R301 describe, what the environment
must keep (rule R286), and the states and events of a run. -/

namespace Sys2Proof.Machine

/-! ## The invariant -/

/-- The column ERR_STATE of rule R301: the states in which an error of each code is taken. -/
def errorTakenIn (code : BitVec 4) (st : ArqState) : Bool :=
  match code.toNat with
  | 0 => st == .idle
  | 1 | 2 | 3 => st == .idle || st == .done || st == .error
  | 4 => st == .awaitingSend || st == .retry
  | 5 => st == .awaitingAck
  | 6 => st == .awaitingSend
  | _ => false

/-- What holds at the start of every cycle while BUSY: rule R58, the accepted configuration (R275), the timer's range
(R241, R242), and the packet buffer's header and zero pad (R112, R164, R165). -/
structure Transfer (s : State) : Prop where
  offsetOfSeq   : s.offset.toNat = s.seq.toNat * s.params.payloadSize
  offsetLe      : s.offset.toNat ≤ s.srcLen.toNat
  offsetLt      : s.srcLen ≠ 0 → s.offset.toNat < s.srcLen.toNat
  lastFlag      : s.isLast = isLastAt s.params s.offset.toNat s.srcLen.toNat
  frameLength   : s.frameLen.toNat = frameLenAt s.params s.offset.toNat s.srcLen.toNat s.isLast
  lenAccepted   : s.srcLen.toNat ≤ s.params.maxLen
  rangeAccepted : s.srcBase.toNat + s.srcLen.toNat ≤ 2 ^ 32
  timeAccepted  : 1 ≤ s.timeoutMs.toNat ∧ s.timeoutMs.toNat < 2 ^ 31
  notLast       : s.isLast = false → s.lastAttempts = 0
  budget        : s.state ≠ .abandoned → s.lastAttempts.toNat ≤ s.params.lastRetryLimit
  exhausted     : s.state = .abandoned → s.isLast = true ∧ s.lastAttempts.toNat = s.params.lastRetryLimit + 1
  noIrq         : s.irqPend = false
  timerRange    : s.state = .awaitingAck → 1 ≤ s.timer.toNat ∧ s.timer.toNat ≤ s.timeoutMs.toNat
  header        : ∀ i < 3, s.pktBuf.read i = (headerBytes s.seq s.isLast)[i]?.getD 0
  headerPad     : ∀ i, 3 ≤ i → i < s.params.headerSize → s.pktBuf.read i = 0
  zeroPad       : ∀ i < s.params.packetSize, s.params.headerSize + s.memIdx.toNat ≤ i → s.pktBuf.read i = 0

/-- The invariant of every state that a run from reset reaches. -/
structure BlockInv (s : State) : Prop where
  /-- The parameters are in their legal ranges (R7). -/
  legal         : s.params.Legal
  /-- PKT_BUF is in canonical form, and has PACKET_SIZE bytes (R39). -/
  bufferForm    : s.pktBuf.wf
  bufferSize    : s.pktBuf.within s.params.packetSize
  /-- Rule R37. -/
  indexLe       : s.memIdx.toNat ≤ s.frameLen.toNat
  notBoth       : s.memPend = true → s.pktReady = false
  pending       : s.memPend = true → s.memIdx.toNat < s.frameLen.toNat
  ready         : s.pktReady = true → s.memIdx = s.frameLen
  sending       : s.state = .awaitingSend → s.memPend = true ∨ s.pktReady = true
  offered       : s.state = .awaitingAck ∨ s.state = .confirmed ∨ s.state = .retry ∨ s.state = .abandoned ∨
                    s.state = .done → s.pktReady = true
  resting       : s.state = .idle → s.memPend = false ∧ s.pktReady = false
  /-- Rules R35 and R301. -/
  errorCode     : s.state = .error ↔ s.errCode ≠ 0
  errorSource   : errorTakenIn s.errCode s.errState = true
  /-- BYTES is nonzero only after a success (R33), ABANDONED only in DONE (R34), IRQ_PEND only in DONE or ERROR (R36). -/
  bytesDone     : s.bytes ≠ 0 → s.state = .done
  abandonedDone : s.abandoned = true → s.state = .done
  irqEnded      : s.irqPend = true → s.state = .done ∨ s.state = .error
  /-- The largest reachable LAST_ATTEMPTS (R29). -/
  attempts      : s.lastAttempts.toNat ≤ s.params.lastRetryLimit + 1
  /-- Rule R58. -/
  transfer      : s.busy = true → Transfer s

/-! ## The negative outcome -/

/-- What negative(cause) does to the retry counters and STATE, as rule R200 says it: a frame that is not the last always
retries; the last one counts its attempt, and is given up once the count exceeds LAST_RETRY_LIMIT. -/
def negativeOutcome (s t : State) : Prop :=
  (s.isLast = false →
    t.lastAttempts = s.lastAttempts ∧ t.retx.toNat = min (s.retx.toNat + 1) (2 ^ 32 - 1) ∧ t.state = .retry) ∧
  (s.isLast = true →
    t.lastAttempts.toNat = min (s.lastAttempts.toNat + 1) (2 ^ 16 - 1) ∧
    (s.params.lastRetryLimit < t.lastAttempts.toNat → t.retx = s.retx ∧ t.state = .abandoned) ∧
    (t.lastAttempts.toNat ≤ s.params.lastRetryLimit →
      t.retx.toNat = min (s.retx.toNat + 1) (2 ^ 32 - 1) ∧ t.state = .retry))

/-! ## The host's two commands -/

/-- The START command (rule R274): a CTRL write with bit 0 = 1. It acts only in a cycle that starts not BUSY (R277). -/
def commandsStart (x : Sample) : Bool :=
  x.csrEn && csrWe x.csr && csrOff x.csr == 0x0 && (csrWdata x.csr).getLsbD 0

/-- The interrupt clear (rule R278): a STATUS write with bit 16 = 1. -/
def clearsIrq (x : Sample) : Bool :=
  x.csrEn && csrWe x.csr && csrOff x.csr == 0x1 && (csrWdata x.csr).getLsbD 16

/-! ## The environment -/

/-- The duties of rule R286 that a sample can break: transmit strobes only while tx_valid, memory strobes only while
mem_req. A broken duty is ignored by the block (R123). -/
def keepsDuties (s : State) (x : Sample) : Bool :=
  ((pvTxDone x.pv || pvTxErr x.pv) → s.txValid) && ((pvMemRspValid x.pv || pvMemErr x.pv) → s.memReq)

/-- A source memory with the given contents: each answer is the byte at mem_addr (rules R84 and R286). -/
def answersFrom (image : Nat → Byte) (s : State) (x : Sample) : Prop :=
  s.memReq = true → pvMemRspValid x.pv = true → x.memData = image s.memAddr.toNat

/-- One tick in every TICK_CYCLES cycles (rules R252 and R286). No rule of the block depends on it. -/
def ticksRegular (xs : List Sample) : Prop :=
  ∀ i j, i < j → (xs[i]?.map fun x => pvMsTick x.pv) = some true → (xs[j]?.map fun x => pvMsTick x.pv) = some true →
    (∀ k, i < k → k < j → (xs[k]?.map fun x => pvMsTick x.pv) = some false) → j - i = Config.tickCycles

/-! ## Runs -/

/-- The states after each of the first `n` steps, ending early where a step stops. -/
def trace : Nat → State → List State
  | 0, _ => []
  | n + 1, s =>
    match step s with
    | .next t => t :: trace n t
    | .fault _ => []
    | .refused _ => []

/-- How many of the states show an event of the given code on the event port. -/
def countEvents (code : BitVec 3) (ts : List State) : Nat :=
  (ts.filter fun t => t.out.evValid && t.out.evCode == code).length

/-- 1 in RETRY, where a retransmission is decided and not yet made. -/
def State.owed (s : State) : Nat := if s.state = .retry then 1 else 0

/-- A frame whose payload bytes read so far are those of source memory (rules R88 and R112). -/
def carries (image : Nat → Byte) (s : State) : Prop :=
  s.busy = true → ∀ i < s.memIdx.toNat,
    s.pktBuf.read (s.params.headerSize + i) = image (s.srcBase.toNat + s.offset.toNat + i)

end Sys2Proof.Machine
end

