-- ==== Sys2Proof/Certificates/Slice0/Obligations.lean ====
section
/-! DEFINITION. The statements for the provers. Each says in its docstring which rule of spec/ it formalises, and what in
it is the model's own choice. `t = { s with f := t.f, … }` says that nothing but the fields named in it changed. -/

open Sys2Proof Sys2Proof.Machine

/-! ## Words -/

/-- Rules R111 to R119 and the table's patterns: decoding the encoding of any well-formed operation, in any state bits in
which its guard holds, gives that operation back, for all thirty rows and every operand value. -/
def Obligations.DecodeOfEncodeIsTheOperation : Prop :=
  ∀ (i : Instr) (p : Params) (g : GuardView), i.wellFormed p = true → i.guard p g = true →
    decode p (encode p g i) = .ok i

/-- Rule R114 and the F-CSR rows of R121: every one of the 2^37 access words is a well-formed register operation, and is
that operation's encoding bit for bit. -/
def Obligations.EveryAccessWordIsItsEncoding : Prop :=
  ∀ (a : BitVec 37) (p : Params) (g : GuardView),
    (decodeCsr a).format = .fCsr ∧ (decodeCsr a).wellFormed p = true ∧ encode p g (decodeCsr a) = .csr a

/-- Rules R117, R119 and R121: the operation that a non-reset cycle selects, in either lane, has its row's guard true of
the state, its row's PV pattern true of the strobes, and admitted operands. -/
def Obligations.SelectedOperationFitsItsRow : Prop :=
  ∀ (x : Sample) (s : State) (i : Instr), pvRst x.pv = false → (arqOp x s = some i ∨ elapsedOp x s = some i) →
    i.guard s.params s.guardView = true ∧ i.wellFormed s.params = true ∧
      ∀ mask value, i.pvPattern = some (mask, value) → x.pv &&& mask = value

/-- Words with the bits that the spec's own tables give them (spec 95 and rules R114, R117 to R119). That a word's width
names its format, that a PV byte with no state is read in the first state in which it selects an operation, and that an
acknowledgment is written first byte most significant, is the model's choice (log 9). -/
def Obligations.WordsOfTheSpecDecode : Prop :=
  decodeTableWord 40 0x1280000000 = some (.csrWrSrcBase 0x80000000) ∧
  decodeTableWord 40 0x1000000003 = some (.start 3) ∧
  decodeTableWord 8 0x80 = some .reset ∧
  decodeTableWord 8 0x20 = some .txErr ∧
  decodeTableWord 5 0b01110 = some .confirm ∧
  decodeTableWord 16 0x0102 = some (.ackPkt 0x0102) ∧
  decodeTableWord 24 0x60006 = some (.evFatal 6) ∧
  decodeTableWord 24 0x70000 = none

/-! ## Reset -/

/-- Rule R341 with the values of R57: RESET clears every element but PKT_BUF, which it does not write; and it does so
whatever the other inputs of its cycle are, with no event, a read value of 0 and no datagram sent. -/
def Obligations.ResetClearsAllButThePacketBuffer : Prop :=
  (∀ s : State, ∃ t, exec .reset s = .next t ∧
    t.state = .idle ∧ t.seq = 0 ∧ t.offset = 0 ∧ t.frameLen = 0 ∧ t.isLast = false ∧ t.lastAttempts = 0 ∧ t.retx = 0 ∧
    t.timer = 0 ∧ t.elapsed = 0 ∧ t.bytes = 0 ∧ t.abandoned = false ∧ t.errCode = 0 ∧ t.errState = .idle ∧
    t.irqPend = false ∧ t.irqEn = false ∧ t.pktReady = false ∧ t.memPend = false ∧ t.memIdx = 0 ∧ t.srcBase = 0 ∧
    t.srcLen = 0 ∧ t.timeoutMs = 0 ∧ t.pktBuf = s.pktBuf ∧ t.params = s.params ∧ t.inputs = s.inputs ∧
    t.cycle = s.cycle ∧ t.out = s.out) ∧
  (∀ s : State, pvRst s.sample.pv = true → ∃ t, step s = .next t ∧ exec .reset (s.openCycle s.sample) = .next t ∧
    t.out.csrRdata = 0 ∧ t.out.evValid = false ∧ t.out.sent = none ∧
    t.out.rxTaken = (pvRxValid s.sample.pv && s.state == .awaitingAck))

/-- Rules R341 (its example), R342 and R55: after RESET every register reads 0 but PARAM. -/
def Obligations.RegistersReadZeroAfterReset : Prop :=
  ∀ s : State, ∃ t, exec .reset s = .next t ∧
    (∀ off : BitVec 4, off ≠ 0xD → t.readValue off = 0) ∧ (s.params = {} → t.readValue 0xD = 0x006403FD) ∧
    t.txValid = false ∧ t.rxReady = false ∧ t.memReq = false ∧ t.irq = false

/-! ## Host accesses -/

/-- Rules R271 and R42 to R56: CSR_RD drives the register's value field by field, reserved bits 0, and changes nothing
else. -/
def Obligations.ReadReturnsTheRegister : Prop :=
  ∀ (s : State) (off : BitVec 4) (w : BitVec 32), ∃ v : BitVec 32,
    exec (.csrRd off w) s = .next { s with out := { s.out with csrRdata := v } } ∧
    (off = 0x0 → v.getLsbD 1 = s.irqEn ∧ ∀ i, i ≠ 1 → v.getLsbD i = false) ∧
    (off = 0x1 → v.extractLsb' 0 3 = s.state.bits ∧ v.getLsbD 3 = false ∧ v.getLsbD 4 = s.busy ∧
      v.getLsbD 5 = (s.state == .done) ∧ v.getLsbD 6 = s.abandoned ∧ v.getLsbD 7 = (s.state == .error) ∧
      v.extractLsb' 8 4 = s.errCode ∧ v.extractLsb' 12 3 = s.errState.bits ∧ v.getLsbD 15 = false ∧
      v.getLsbD 16 = s.irqPend ∧ v.extractLsb' 17 15 = 0) ∧
    (off = 0x2 → v = s.srcBase) ∧ (off = 0x3 → v = s.srcLen) ∧ (off = 0x4 → v = s.timeoutMs) ∧
    (off = 0x5 → v.toNat = s.seq.toNat) ∧ (off = 0x6 → v = s.offset) ∧ (off = 0x7 → v = s.retx) ∧
    (off = 0x8 → v.toNat = s.lastAttempts.toNat) ∧ (off = 0x9 → v = s.elapsed) ∧ (off = 0xA → v = s.bytes) ∧
    (off = 0xB → v.extractLsb' 0 11 = s.frameLen ∧ v.getLsbD 11 = s.isLast ∧ v.getLsbD 12 = s.pktReady ∧
      v.getLsbD 13 = s.memPend ∧ v.extractLsb' 14 2 = 0 ∧ v.extractLsb' 16 11 = s.memIdx ∧ v.extractLsb' 27 5 = 0) ∧
    (off = 0xC → v.toNat = s.timer.toNat) ∧
    (off = 0xD → v.extractLsb' 0 11 = BitVec.ofNat 11 s.params.payloadSize ∧ v.extractLsb' 11 5 = 0 ∧
      v.extractLsb' 16 16 = BitVec.ofNat 16 s.params.lastRetryLimit) ∧
    (off = 0xE ∨ off = 0xF → v = 0)

/-- Rules R273, R278 and R282, with the access words that select them: CTRL writes IRQ_EN from bit 1, STATUS clears
IRQ_PEND where bit 16 is 1, a write to a read-only or reserved offset changes nothing; in every state, and nothing else
changes. A clear in the cycle in which the block enters DONE or ERROR leaves IRQ_PEND set. -/
def Obligations.ControlAndStatusWrites : Prop :=
  (∀ a : BitVec 37, csrWe a = true →
    (csrOff a = 0x0 → (csrWdata a).getLsbD 0 = false → decodeCsr a = .csrWrCtrl (csrWdata a)) ∧
    (csrOff a = 0x1 → decodeCsr a = .csrWrStatus (csrWdata a)) ∧
    (5 ≤ (csrOff a).toNat → decodeCsr a = .csrWrRo (csrOff a) (csrWdata a))) ∧
  (∀ (s : State) (w : BitVec 32) (off : BitVec 4),
    exec (.csrWrCtrl w) s = .next { s with irqEn := w.getLsbD 1 } ∧
    (w.getLsbD 16 = true → exec (.csrWrStatus w) s = .next { s with irqPend := false }) ∧
    (w.getLsbD 16 = false → exec (.csrWrStatus w) s = .next s) ∧
    exec (.csrWrRo off w) s = .next s) ∧
  (∀ s t : State, step s = .next t → pvRst s.sample.pv = false → clearsIrq s.sample = true → s.busy = true →
    t.state = .done ∨ t.state = .error → t.irqPend = true)

/-- Rules R279, R280 and R281, with the access words that select them: a configuration write sets its register while not
BUSY and is ignored completely while BUSY. -/
def Obligations.ConfigurationWrites : Prop :=
  (∀ a : BitVec 37, csrWe a = true →
    (csrOff a = 0x2 → decodeCsr a = .csrWrSrcBase (csrWdata a)) ∧
    (csrOff a = 0x3 → decodeCsr a = .csrWrSrcLen (csrWdata a)) ∧
    (csrOff a = 0x4 → decodeCsr a = .csrWrTimeout (csrWdata a))) ∧
  ∀ (s : State) (w : BitVec 32),
    (s.busy = true → exec (.csrWrSrcBase w) s = .next s ∧ exec (.csrWrSrcLen w) s = .next s ∧
      exec (.csrWrTimeout w) s = .next s) ∧
    (s.busy = false → exec (.csrWrSrcBase w) s = .next { s with srcBase := w } ∧
      exec (.csrWrSrcLen w) s = .next { s with srcLen := w } ∧ exec (.csrWrTimeout w) s = .next { s with timeoutMs := w })

/-- Rule R277: a CTRL write with bit 0 = 1 in a cycle that starts BUSY updates IRQ_EN and does nothing else. -/
def Obligations.StartWhileBusyWritesOnlyIrqEn : Prop :=
  (∀ a : BitVec 37, csrWe a = true → csrOff a = 0x0 → (csrWdata a).getLsbD 0 = true →
    decodeCsr a = .start (csrWdata a)) ∧
  ∀ (s : State) (w : BitVec 32), s.busy = true → exec (.start w) s = .next { s with irqEn := w.getLsbD 1 }

/-- Rules R274, R276 and R161 to R165: an accepted START clears the statistics and the error and sets up frame 0. The
conditions are those of check() (R275). -/
def Obligations.AcceptedStartFramesTheFirstFrame : Prop :=
  ∀ (s : State) (w : BitVec 32), s.params.Legal → s.busy = false →
    1 ≤ s.timeoutMs.toNat → s.timeoutMs.toNat < 2 ^ 31 → s.srcLen.toNat ≤ s.params.maxLen →
    s.srcBase.toNat + s.srcLen.toNat ≤ 2 ^ 32 →
    ∃ t, exec (.start w) s = .next t ∧ t.state = .awaitingSend ∧ t.seq = 0 ∧ t.offset = 0 ∧
      (t.isLast = true ↔ s.srcLen.toNat ≤ s.params.payloadSize) ∧
      t.frameLen.toNat = min s.srcLen.toNat s.params.payloadSize ∧ t.memIdx = 0 ∧
      (t.memPend = true ↔ s.srcLen ≠ 0) ∧ (t.pktReady = true ↔ s.srcLen = 0) ∧
      t.lastAttempts = 0 ∧ t.retx = 0 ∧ t.timer = 0 ∧ t.elapsed = 0 ∧ t.bytes = 0 ∧ t.abandoned = false ∧
      t.errCode = 0 ∧ t.errState = .idle ∧ t.irqPend = false ∧ t.irqEn = w.getLsbD 1 ∧
      t.pktBuf.read 0 = 0 ∧ t.pktBuf.read 1 = 0 ∧ t.pktBuf.read 2 = (if t.isLast then 1 else 0) ∧
      (∀ i, 3 ≤ i → t.pktBuf.read i = 0) ∧
      t.srcBase = s.srcBase ∧ t.srcLen = s.srcLen ∧ t.timeoutMs = s.timeoutMs ∧ t.params = s.params ∧
      t.inputs = s.inputs ∧ t.cycle = s.cycle ∧ t.out = s.out

/-- Rules R275, R276 and R304: a START whose check fails takes the fatal error of the first check that fails, in the
order 1, 2, 3; the per-transfer state is cleared, and the configuration and PKT_BUF are kept. -/
def Obligations.RejectedStartTakesTheFirstFailingCode : Prop :=
  ∀ (s : State) (w : BitVec 32) (code : BitVec 4), s.busy = false →
    code = (if s.timeoutMs.toNat = 0 ∨ 2 ^ 31 ≤ s.timeoutMs.toNat then 1
            else if s.params.maxLen < s.srcLen.toNat then 2
            else if 2 ^ 32 < s.srcBase.toNat + s.srcLen.toNat then 3 else 0) → code ≠ 0 →
    ∃ t, exec (.start w) s = .next t ∧ t.state = .error ∧ t.errCode = code ∧ t.errState = s.state ∧ t.irqPend = true ∧
      t.out = { s.out with evValid := true, evCode := 6, evArg := code.setWidth 16 } ∧ t.irqEn = w.getLsbD 1 ∧
      t.seq = 0 ∧ t.offset = 0 ∧ t.frameLen = 0 ∧ t.isLast = false ∧ t.lastAttempts = 0 ∧ t.retx = 0 ∧ t.timer = 0 ∧
      t.elapsed = 0 ∧ t.bytes = 0 ∧ t.abandoned = false ∧ t.pktReady = false ∧ t.memPend = false ∧ t.memIdx = 0 ∧
      t.srcBase = s.srcBase ∧ t.srcLen = s.srcLen ∧ t.timeoutMs = s.timeoutMs ∧ t.pktBuf = s.pktBuf ∧
      t.params = s.params ∧ t.inputs = s.inputs ∧ t.cycle = s.cycle

/-! ## The framer -/

/-- Rule R167: MEM_BYTE puts the byte at PKT_BUF[HEADER_SIZE + MEM_IDX], where HEADER_SIZE is 3 (R7, log 3), leaves every
other byte, moves MEM_IDX on, and on the frame's last byte makes the packet ready. -/
def Obligations.MemoryByteFillsOneBufferByte : Prop :=
  ∀ (s : State) (b : Byte), s.pktBuf.wf → s.state = .awaitingSend → s.memPend = true →
    s.params.headerSize + s.memIdx.toNat < s.params.packetSize →
    ∃ t, exec (.memByte b) s = .next t ∧ t.pktBuf.read (s.params.headerSize + s.memIdx.toNat) = b ∧
      (∀ a, a ≠ s.params.headerSize + s.memIdx.toNat → t.pktBuf.read a = s.pktBuf.read a) ∧ t.pktBuf.wf ∧
      t.memIdx = s.memIdx + 1 ∧
      (s.memIdx + 1 = s.frameLen → t.memPend = false ∧ t.pktReady = true) ∧
      (s.memIdx + 1 ≠ s.frameLen → t.memPend = true ∧ t.pktReady = s.pktReady) ∧
      t = { s with pktBuf := t.pktBuf, memIdx := t.memIdx, memPend := t.memPend, pktReady := t.pktReady }

/-- The model's own choice (log 7), for states that no run reaches: MEM_BYTE at an index the buffer does not have stops by
name. -/
def Obligations.MemoryByteStopsBeyondTheBuffer : Prop :=
  ∀ (s : State) (b : Byte), s.state = .awaitingSend → s.memPend = true →
    s.params.packetSize ≤ s.params.headerSize + s.memIdx.toNat →
    exec (.memByte b) s = .fault (.pktBufIndex (s.params.headerSize + s.memIdx.toNat))

/-- Rules R83, R88 and R166: while a byte is asked for, the address is SRC_BASE + OFFSET + MEM_IDX without wrapping, and
it lies in the source buffer. -/
def Obligations.MemoryRequestsStayInTheSourceBuffer : Prop :=
  ∀ s : State, BlockInv s → s.memReq = true →
    s.memAddr.toNat = s.srcBase.toNat + s.offset.toNat + s.memIdx.toNat ∧
    s.srcBase.toNat ≤ s.memAddr.toNat ∧ s.memAddr.toNat < s.srcBase.toNat + s.srcLen.toNat

/-! ## Fatal errors -/

/-- Rules R168, R305, R306 and R304: inside its handshake each error input takes the fatal entry with its code: the cause
and the STATE it was taken in are saved, IRQ_PEND is set, FATAL is emitted, STATE is ERROR, and nothing else changes. -/
def Obligations.ErrorInputsTakeTheFatalEntry : Prop :=
  ∀ (s : State) (i : Instr) (code : BitVec 4),
    (i = .memErr ∧ s.memReq = true ∧ code = 6) ∨ (i = .txErr ∧ s.txValid = true ∧ code = 4) ∨
      (i = .rxErr ∧ s.rxReady = true ∧ code = 5) →
    ∃ t, exec i s = .next t ∧ t.errState = s.state ∧ t.errCode = code ∧ t.irqPend = true ∧ t.state = .error ∧
      t.out = { s.out with evValid := true, evCode := 6, evArg := code.setWidth 16 } ∧
      t = { s with errState := t.errState, errCode := t.errCode, irqPend := t.irqPend, state := t.state, out := t.out }

/-- Rules R168, R305, R306, R304 and R123: MEM_ERR, TX_ERR and RX_ERR complete in every state. Inside its window each
takes the fatal entry, which is its whole effect, and outside its window it changes nothing. -/
def Obligations.ErrorOperationsComplete : Prop :=
  ∀ s : State,
    exec .memErr s = .next (
      if s.state = .awaitingSend ∧ s.memPend = true then
        { s with errState := .awaitingSend, errCode := 6, irqPend := true, state := .error,
                 out := { s.out with evValid := true, evCode := 6, evArg := 6 } }
      else s) ∧
    exec .txErr s = .next (
      if s.state = .awaitingSend ∧ s.pktReady = true ∨ s.state = .retry then
        { s with errState := s.state, errCode := 4, irqPend := true, state := .error,
                 out := { s.out with evValid := true, evCode := 6, evArg := 4 } }
      else s) ∧
    exec .rxErr s = .next (
      if s.state = .awaitingAck then
        { s with errState := .awaitingAck, errCode := 5, irqPend := true, state := .error,
                 out := { s.out with evValid := true, evCode := 6, evArg := 5 } }
      else s)

/-- Rules R304 to R308: an error input in its window ends the transfer in its own cycle, whatever else the cycle carries
but a reset: the error beats the success input of its port, nothing is sent, and SEQ, OFFSET, RETX, LAST_ATTEMPTS, TIMER,
FRAME_LEN, IS_LAST, PKT_READY, MEM_PEND, MEM_IDX, BYTES and PKT_BUF keep their values. -/
def Obligations.ErrorInputsEndTheTransferAtOnce : Prop :=
  ∀ (s : State) (code : BitVec 4), pvRst s.sample.pv = false →
    (s.memReq = true ∧ pvMemErr s.sample.pv = true ∧ code = 6) ∨
      (s.txValid = true ∧ s.memReq = false ∧ pvTxErr s.sample.pv = true ∧ code = 4) ∨
      (s.rxReady = true ∧ pvRxErr s.sample.pv = true ∧ code = 5) →
    ∃ t, step s = .next t ∧ t.state = .error ∧ t.errCode = code ∧ t.errState = s.state ∧ t.irqPend = true ∧
      t.out.evValid = true ∧ t.out.evCode = 6 ∧ t.out.evArg.toNat = code.toNat ∧ t.out.sent = none ∧
      t = { s with state := t.state, errCode := t.errCode, errState := t.errState, irqPend := t.irqPend,
                   irqEn := t.irqEn, elapsed := t.elapsed, inputs := s.inputs.tail, cycle := s.cycle + 1, out := t.out }

/-! ## The state machine -/

/-- Rules R193, R194, R241 and R245: both transmit completions hand over the PACKET_SIZE bytes of PKT_BUF, emit SENT or
RESEND with SEQ, arm the timer with TIMEOUT_MS[30:0], and wait; nothing else changes. -/
def Obligations.TransmitCompletionSendsAndWaits : Prop :=
  ∀ (s : State) (i : Instr) (code : BitVec 3),
    (i = .txDoneFirst ∧ s.state = .awaitingSend ∧ s.pktReady = true ∧ code = 1) ∨
      (i = .txDoneRetry ∧ s.state = .retry ∧ code = 3) →
    ∃ t bs, exec i s = .next t ∧ bs.length = s.params.packetSize ∧
      (∀ k < s.params.packetSize, bs[k]? = some (s.pktBuf.read k)) ∧
      t.timer.toNat = s.timeoutMs.toNat % 2 ^ 31 ∧ t.state = .awaitingAck ∧
      t.out = { s.out with evValid := true, evCode := code, evArg := s.seq, sent := some bs } ∧
      t = { s with timer := t.timer, state := t.state, out := t.out }

/-- Rules R197 and R198: a datagram of length ACK_SIZE, which is 2 (R7), with ACKV = SEQ, consumed in AWAITING_ACK, emits
ACK_ACCEPTED and confirms; nothing else changes. -/
def Obligations.MatchingAcknowledgmentConfirms : Prop :=
  ∀ (s : State) (d : Datagram), s.state = .awaitingAck → d.length s.params = s.params.ackSize →
    d.b0.toNat * 256 + d.b1.toNat = s.seq.toNat →
    exec (.rxAckMatch d) s = .next { s with state := .confirmed,
                                            out := { s.out with evValid := true, evCode := 4, evArg := s.seq } }

/-- Rules R199 and R200: any other datagram in AWAITING_ACK is a negative outcome, with no event and nothing else
changed. -/
def Obligations.MismatchIsANegativeOutcome : Prop :=
  ∀ (s : State) (d : Datagram), s.state = .awaitingAck →
    ¬ (d.length s.params = s.params.ackSize ∧ d.b0.toNat * 256 + d.b1.toNat = s.seq.toNat) →
    ∃ t, exec (.rxMismatch d) s = .next t ∧ negativeOutcome s t ∧
      t = { s with lastAttempts := t.lastAttempts, retx := t.retx, state := t.state }

/-- Rules R243 and R200: the tick that finds TIMER ≤ 1 emits TIMEOUT, sets TIMER to 0 and is a negative outcome. -/
def Obligations.ExpiryIsANegativeOutcome : Prop :=
  ∀ s : State, s.state = .awaitingAck → s.timer.toNat ≤ 1 →
    ∃ t, exec .tickExpire s = .next t ∧ negativeOutcome s t ∧ t.timer = 0 ∧
      t.out = { s.out with evValid := true, evCode := 2, evArg := s.seq } ∧
      t = { s with lastAttempts := t.lastAttempts, retx := t.retx, state := t.state, timer := t.timer, out := t.out }

/-- Rules R242 and R246: a tick with time left takes one from TIMER, and a tick while BUSY adds one to ELAPSED, which
stays at its largest value; nothing else changes. -/
def Obligations.TicksCount : Prop :=
  (∀ s : State, s.state = .awaitingAck → 1 < s.timer.toNat →
    ∃ t, exec .msTick s = .next t ∧ t.timer.toNat + 1 = s.timer.toNat ∧ t = { s with timer := t.timer }) ∧
  (∀ s : State, s.busy = true →
    ∃ t, exec .tickElapsed s = .next t ∧ t.elapsed.toNat = min (s.elapsed.toNat + 1) (2 ^ 32 - 1) ∧
      t = { s with elapsed := t.elapsed })

/-- Rules R202 and R161 to R165: confirming a frame that is not the last moves SEQ and OFFSET on and sets up the next
frame, whose buffer is its header and zeros. -/
def Obligations.ConfirmFramesTheNextFrame : Prop :=
  ∀ s : State, BlockInv s → s.state = .confirmed → s.isLast = false →
    ∃ t, exec .confirm s = .next t ∧ t.seq.toNat = s.seq.toNat + 1 ∧
      t.offset.toNat = s.offset.toNat + s.params.payloadSize ∧
      (t.isLast = true ↔ s.srcLen.toNat ≤ t.offset.toNat + s.params.payloadSize) ∧
      t.frameLen.toNat = min s.params.payloadSize (s.srcLen.toNat - t.offset.toNat) ∧
      t.lastAttempts = 0 ∧ t.memIdx = 0 ∧ t.memPend = true ∧ t.pktReady = false ∧ t.state = .awaitingSend ∧
      t.pktBuf.read 0 = t.seq.extractLsb' 8 8 ∧ t.pktBuf.read 1 = t.seq.extractLsb' 0 8 ∧
      t.pktBuf.read 2 = (if t.isLast then 1 else 0) ∧ (∀ i, 3 ≤ i → t.pktBuf.read i = 0) ∧
      t = { s with seq := t.seq, offset := t.offset, isLast := t.isLast, frameLen := t.frameLen,
                   lastAttempts := t.lastAttempts, pktBuf := t.pktBuf, memIdx := t.memIdx, memPend := t.memPend,
                   pktReady := t.pktReady, state := t.state }

/-- Rules R202, R205 and R27: confirming the last frame moves SEQ on mod 2^SEQ_W, where SEQ_W is 16 (R7), leaves
OFFSET = SRC_LEN, and completes. -/
def Obligations.ConfirmCompletesTheLastFrame : Prop :=
  ∀ s : State, BlockInv s → s.state = .confirmed → s.isLast = true →
    ∃ t, exec .confirm s = .next t ∧ t.seq.toNat = (s.seq.toNat + 1) % 2 ^ s.params.seqW ∧
      t.offset.toNat = s.offset.toNat + s.frameLen.toNat ∧ t.offset = s.srcLen ∧ t.bytes = s.srcLen ∧
      t.irqPend = true ∧ t.state = .done ∧
      t = { s with seq := t.seq, offset := t.offset, bytes := t.bytes, irqPend := t.irqPend, state := t.state }

/-- Rules R203 and R205: ABANDON, taken in every non-reset cycle that starts in ABANDONED whatever the inputs are, emits
GIVE_UP with SEQ, sets ABANDONED, and completes; SEQ, OFFSET and RETX keep their values. -/
def Obligations.AbandonCompletesWithoutAdvancing : Prop :=
  (∀ sel : BitVec 5, sel.extractLsb' 2 3 = 5 → decodeState sel = some .abandon) ∧
  ∀ s : State, s.state = .abandoned →
    (∀ x : Sample, arqOp x s = some .abandon) ∧
    exec .abandon s = .next { s with abandoned := true, bytes := s.srcLen, irqPend := true, state := .done,
                                     out := { s.out with evValid := true, evCode := 5, evArg := s.seq } }

/-- An operation run outside its window, or whose guard of rule R121 fails, changes nothing. Rule R123 says so of inputs
outside their window. That exec of an operation whose guard fails for another reason changes nothing (RX_ACK_MATCH on a
mismatch, MS_TICK with TIMER ≤ 1, TX_DONE_FIRST in RETRY, and the like) is the model's choice (log 18). -/
def Obligations.OutsideItsWindowNothingChanges : Prop :=
  ∀ (s : State) (b : Byte) (d : Datagram),
    (s.state ≠ .awaitingSend ∨ s.memPend = false → exec (.memByte b) s = .next s ∧ exec .memErr s = .next s) ∧
    (s.state ≠ .awaitingSend ∨ s.pktReady = false → exec .txDoneFirst s = .next s) ∧
    (s.state ≠ .retry → exec .txDoneRetry s = .next s) ∧
    ((s.state ≠ .awaitingSend ∨ s.pktReady = false) ∧ s.state ≠ .retry → exec .txErr s = .next s) ∧
    (s.state ≠ .awaitingAck ∨ d.acknowledges s.params s.seq = false → exec (.rxAckMatch d) s = .next s) ∧
    (s.state ≠ .awaitingAck ∨ d.acknowledges s.params s.seq = true → exec (.rxMismatch d) s = .next s) ∧
    (s.state ≠ .awaitingAck → exec .rxErr s = .next s) ∧
    (s.state ≠ .awaitingAck ∨ s.timer.toNat ≤ 1 → exec .msTick s = .next s) ∧
    (s.state ≠ .awaitingAck ∨ 1 < s.timer.toNat → exec .tickExpire s = .next s) ∧
    (s.busy = false → exec .tickElapsed s = .next s) ∧
    (s.state ≠ .confirmed → exec .confirm s = .next s) ∧
    (s.state ≠ .abandoned → exec .abandon s = .next s)

/-! ## The wire formats and the event words -/

/-- Rules R86, R112 and R192: the packet on offer goes to the transport with exactly its bytes; any other packet, and any
packet while none is on offer, is not sent. That a DATA_PKT word is an operation at all is the model's choice (log 8). -/
def Obligations.OnlyTheOfferedPacketIsSent : Prop :=
  ∀ (s : State) (seq : BitVec 16) (last : Bool) (payload : List Byte),
    (s.txValid = true → s.packet = headerBytes seq last ++ payload →
      exec (.dataPkt seq last payload) s =
        .next { s with out := { s.out with
                  sent := some (seq.extractLsb' 8 8 :: seq.extractLsb' 0 8 :: (if last then 1 else 0) :: payload) } }) ∧
    (s.txValid = false ∨ s.packet ≠ headerBytes seq last ++ payload → exec (.dataPkt seq last payload) s = .next s)

/-- Rules R113, R195, R197 and R199: a two-byte acknowledgment is consumed only in AWAITING_ACK, confirms if its number is
SEQ, and is a negative outcome otherwise. That an ACK_PKT word is an operation, with the effect of its arrival at the RX
port, is the model's choice (log 8). -/
def Obligations.AcknowledgmentIsMatchedOrNegative : Prop :=
  ∀ (s : State) (ackv : BitVec 16),
    (s.state ≠ .awaitingAck → exec (.ackPkt ackv) s = .next s) ∧
    (s.state = .awaitingAck → ackv = s.seq →
      exec (.ackPkt ackv) s = .next { s with state := .confirmed,
                                             out := { s.out with evValid := true, evCode := 4, evArg := s.seq } }) ∧
    (s.state = .awaitingAck → ackv ≠ s.seq →
      ∃ t, exec (.ackPkt ackv) s = .next t ∧ negativeOutcome s t ∧
        t = { s with lastAttempts := t.lastAttempts, retx := t.retx, state := t.state })

/-- Rules R118 and R284: an event word drives the event port with its code and argument, and nothing else changes. That an
event word is an operation at all is the model's choice (log 8). -/
def Obligations.EventWordsDriveTheEventPort : Prop :=
  ∀ (s : State) (a : BitVec 16) (c : BitVec 4) (i : Instr) (code : BitVec 3) (arg : BitVec 16),
    (i = .evSent a ∧ code = 1 ∧ arg = a) ∨ (i = .evTimeout a ∧ code = 2 ∧ arg = a) ∨
      (i = .evResend a ∧ code = 3 ∧ arg = a) ∨ (i = .evAckAccepted a ∧ code = 4 ∧ arg = a) ∨
      (i = .evGiveUp a ∧ code = 5 ∧ arg = a) ∨ (i = .evFatal c ∧ code = 6 ∧ arg.toNat = c.toNat) →
    exec i s = .next { s with out := { s.out with evValid := true, evCode := code, evArg := arg } }

/-! ## One cycle -/

/-- Rule R191, the step of one cycle: in a reset cycle RESET alone runs; in any other, the decoded host access, then
TICK_ELAPSED, then the decoded operation of the state machine, each in the state the one before it left, with every
selection read from the state at the start of the cycle. `openCycle` uses the sample up and drives the outputs of R116. -/
def Obligations.StepRunsTheDecodedOperations : Prop :=
  ∀ (s : State) (x : Sample), s.sample = x →
    (pvRst x.pv = true → step s = exec .reset (s.openCycle x)) ∧
    (pvRst x.pv = false → ∀ s1 s2,
      (x.csrEn = true → exec (decodeCsr x.csr) (s.openCycle x) = .next s1) →
      (x.csrEn = false → s1 = s.openCycle x) →
      (pvMsTick x.pv = true ∧ s.busy = true → exec .tickElapsed s1 = .next s2) →
      (pvMsTick x.pv = false ∨ s.busy = false → s2 = s1) →
      (∀ i, decodeArq s.params x.pv x.rx x.memData s.guardView = some i → step s = exec i s2) ∧
      (decodeArq s.params x.pv x.rx x.memData s.guardView = none → step s = .next s2))

/-- Rules R121 and R191: an operation that is made the next one is the one that the step runs; beside MS_TICK and
TICK_EXPIRE the tick also runs TICK_ELAPSED. How an operation is made the next one is the model's (log 10). -/
def Obligations.PresentedOperationIsRun : Prop :=
  ∀ (s : State) (i : Instr), i.wellFormed s.params = true → i.format = .fCsr ∨ i.format = .fPort ∨ i.format = .fState →
    (i.format = .fCsr → s.state ≠ .confirmed ∧ s.state ≠ .abandoned) →
    step (s.present i) =
      if i = .msTick ∨ i = .tickExpire then
        andThen (exec .tickElapsed ((s.present i).openCycle (s.present i).sample)) (exec i)
      else exec i ((s.present i).openCycle (s.present i).sample)

/-- Log 10: a table word that the decoder reads becomes the next operation, so that the step runs it; and a word that an
operation drives (an event, a packet, a received acknowledgment) is driven or consumed by that step. -/
def Obligations.PresentedWordIsDriven : Prop :=
  (∀ (s : State) (nbits w : Nat) (i : Instr), decodeTableWord nbits w = some i →
    step (s.withFetchWord nbits w) = step (s.present i)) ∧
  (∀ (s : State) (i : Instr) (code : BitVec 3) (arg : BitVec 16), s.params.Legal →
    (i = .evSent arg ∧ code = 1) ∨ (i = .evTimeout arg ∧ code = 2) ∨ (i = .evResend arg ∧ code = 3) ∨
      (i = .evAckAccepted arg ∧ code = 4) ∨ (i = .evGiveUp arg ∧ code = 5) ∨
      (∃ c : BitVec 4, i = .evFatal c ∧ 1 ≤ c.toNat ∧ c.toNat ≤ 6 ∧ code = 6 ∧ arg.toNat = c.toNat) →
    ∃ t, step (s.present i) = .next t ∧ t.out.evValid = true ∧ t.out.evCode = code ∧ t.out.evArg = arg) ∧
  (∀ (s : State) (seq : BitVec 16) (last : Bool) (payload : List Byte), 3 + payload.length = s.params.packetSize →
    ∃ t, step (s.present (.dataPkt seq last payload)) = .next t ∧ t.out.sent = some (headerBytes seq last ++ payload)) ∧
  (∀ (s : State) (ackv : BitVec 16), s.params.Legal →
    step (s.present (.ackPkt ackv)) =
      exec (.ackPkt ackv) ((s.present (.ackPkt ackv)).openCycle (s.present (.ackPkt ackv)).sample))

/-- Rules R116, R195, R271 and R283: the state-only outputs of a cycle are functions of the state at its start, a host
read returns the register as it is there, and the read data are 0 in every other cycle. -/
def Obligations.OutputsReadTheStartOfTheCycle : Prop :=
  ∀ s t : State, step s = .next t →
    t.out.txValid = (s.state == .awaitingSend && s.pktReady || s.state == .retry) ∧
    t.out.rxReady = (s.state == .awaitingAck) ∧ t.out.memReq = (s.state == .awaitingSend && s.memPend) ∧
    (s.memReq = true → t.out.memAddr.toNat = (s.srcBase.toNat + s.offset.toNat + s.memIdx.toNat) % 2 ^ 32) ∧
    t.out.irq = (s.irqPend && s.irqEn) ∧
    (s.sample.pktRdAddr.toNat < s.params.packetSize →
      t.out.pktRdData = s.pktBuf.read s.sample.pktRdAddr.toNat) ∧
    t.out.rxTaken = (pvRxValid s.sample.pv && s.state == .awaitingAck) ∧
    t.out.csrRdata = (if !pvRst s.sample.pv && s.sample.csrEn && !csrWe s.sample.csr then s.readValue (csrOff s.sample.csr)
                      else 0)

/-- Rules R118 and R284: in a cycle with no event the port reads 0, and an emitted code is one of 1 to 6. -/
def Obligations.EventPortIsQuietOrNamesAnEvent : Prop :=
  ∀ s t : State, step s = .next t →
    (t.out.evValid = false → t.out.evCode = 0 ∧ t.out.evArg = 0) ∧
    (t.out.evValid = true → 1 ≤ t.out.evCode.toNat ∧ t.out.evCode.toNat ≤ 6)

/-- The transition table of rule R210: every non-reset step is one of its rows, with the row's condition on the state and
the inputs and the row's event; or no row that leaves STATE has its condition met, and then STATE is kept and nothing
emitted. -/
def Obligations.StepsFollowTheTransitionTable : Prop :=
  ∀ s t : State, step s = .next t → pvRst s.sample.pv = false →
    (t.state = s.state ∧ t.out.evValid = false ∧
      (s.busy = false → commandsStart s.sample = false) ∧
      (s.state = .awaitingSend → s.memPend = true → pvMemErr s.sample.pv = false) ∧
      (s.state = .awaitingSend ∧ s.memPend = false ∧ s.pktReady = true ∨ s.state = .retry →
        pvTxErr s.sample.pv = false ∧ pvTxDone s.sample.pv = false) ∧
      (s.state = .awaitingAck → pvRxErr s.sample.pv = false ∧ pvRxValid s.sample.pv = false ∧
        (pvMsTick s.sample.pv = true → 1 < s.timer.toNat)) ∧
      s.state ≠ .confirmed ∧ s.state ≠ .abandoned) ∨
    (s.busy = false ∧ commandsStart s.sample = true ∧ s.check ≠ 0 ∧ t.state = .error ∧
      t.out.evValid = true ∧ t.out.evCode = 6 ∧ t.out.evArg.toNat = s.check.toNat ∧ t.errCode = s.check) ∨
    (s.busy = false ∧ commandsStart s.sample = true ∧ s.check = 0 ∧ t.state = .awaitingSend ∧ t.out.evValid = false) ∨
    (s.state = .awaitingSend ∧ s.memPend = true ∧ pvMemErr s.sample.pv = true ∧ t.state = .error ∧
      t.out.evValid = true ∧ t.out.evCode = 6 ∧ t.out.evArg = 6) ∨
    ((s.state = .awaitingSend ∧ s.pktReady = true ∨ s.state = .retry) ∧ pvTxErr s.sample.pv = true ∧ t.state = .error ∧
      t.out.evValid = true ∧ t.out.evCode = 6 ∧ t.out.evArg = 4) ∨
    (s.state = .awaitingSend ∧ s.pktReady = true ∧ pvTxErr s.sample.pv = false ∧ pvTxDone s.sample.pv = true ∧
      t.state = .awaitingAck ∧ t.out.evValid = true ∧ t.out.evCode = 1 ∧ t.out.evArg = s.seq) ∨
    (s.state = .awaitingAck ∧ pvRxErr s.sample.pv = true ∧ t.state = .error ∧
      t.out.evValid = true ∧ t.out.evCode = 6 ∧ t.out.evArg = 5) ∨
    (s.state = .awaitingAck ∧ pvRxErr s.sample.pv = false ∧ pvRxValid s.sample.pv = true ∧
      s.sample.rx.acknowledges s.params s.seq = true ∧ t.state = .confirmed ∧
      t.out.evValid = true ∧ t.out.evCode = 4 ∧ t.out.evArg = s.seq) ∨
    (s.state = .awaitingAck ∧ pvRxErr s.sample.pv = false ∧ pvRxValid s.sample.pv = true ∧
      s.sample.rx.acknowledges s.params s.seq = false ∧ t.out.evValid = false ∧ negativeOutcome s t) ∨
    (s.state = .awaitingAck ∧ pvRxErr s.sample.pv = false ∧ pvRxValid s.sample.pv = false ∧ pvMsTick s.sample.pv = true ∧
      s.timer.toNat ≤ 1 ∧ negativeOutcome s t ∧ t.out.evValid = true ∧ t.out.evCode = 2 ∧ t.out.evArg = s.seq) ∨
    (s.state = .confirmed ∧ s.isLast = false ∧ t.state = .awaitingSend ∧ t.out.evValid = false) ∨
    (s.state = .confirmed ∧ s.isLast = true ∧ t.state = .done ∧ t.out.evValid = false) ∨
    (s.state = .retry ∧ pvTxErr s.sample.pv = false ∧ pvTxDone s.sample.pv = true ∧ t.state = .awaitingAck ∧
      t.out.evValid = true ∧ t.out.evCode = 3 ∧ t.out.evArg = s.seq) ∨
    (s.state = .abandoned ∧ t.state = .done ∧ t.out.evValid = true ∧ t.out.evCode = 5 ∧ t.out.evArg = s.seq)

/-- Rules R207, R197 and R210: CONFIRMED is entered only in a cycle that consumes, without rx_err, a datagram of length
ACK_SIZE, which is 2 (rule R7), whose number is SEQ. -/
def Obligations.OnlyAMatchEntersConfirmed : Prop :=
  ∀ s t : State, step s = .next t → t.state = .confirmed →
    s.state = .awaitingAck ∧ pvRst s.sample.pv = false ∧ pvRxErr s.sample.pv = false ∧ pvRxValid s.sample.pv = true ∧
      s.sample.rx.length s.params = s.params.ackSize ∧ s.sample.rx.b0.toNat * 256 + s.sample.rx.b1.toNat = s.seq.toNat

/-- Rules R26 and R209: SEQ changes only by CONFIRM, which adds 1 mod 2^SEQ_W, or to 0 by a START that is taken or by
RESET. -/
def Obligations.SequenceAdvancesOnlyOnConfirm : Prop :=
  ∀ s t : State, step s = .next t →
    (s.state = .confirmed ∧ pvRst s.sample.pv = false ∧ t.seq = BitVec.ofNat 16 ((s.seq.toNat + 1) % 2 ^ s.params.seqW)) ∨
    (t.seq = 0 ∧ (pvRst s.sample.pv = true ∨ s.busy = false ∧ commandsStart s.sample = true)) ∨
    (t.seq = s.seq ∧ s.state ≠ .confirmed)

/-- Rules R272 and R38: the three configuration registers do not change in a cycle that starts BUSY, reset apart. -/
def Obligations.ConfigurationHoldsWhileBusy : Prop :=
  ∀ s t : State, step s = .next t → s.busy = true → pvRst s.sample.pv = false →
    t.srcBase = s.srcBase ∧ t.srcLen = s.srcLen ∧ t.timeoutMs = s.timeoutMs

/-- Rules R123, R204 and R318: a cycle with no reset and no host access changes no element, and no step is missing, where
the block is not BUSY whatever its ports do, and where it waits and the awaited port is silent and no tick comes. -/
def Obligations.WaitingStatesHold : Prop :=
  ∀ s : State, pvRst s.sample.pv = false → s.sample.csrEn = false →
    s.busy = false ∨
      (s.memReq = true ∧ pvMemErr s.sample.pv = false ∧ pvMemRspValid s.sample.pv = false ∧
        pvMsTick s.sample.pv = false) ∨
      (s.memPend = false ∧ s.txValid = true ∧ pvTxErr s.sample.pv = false ∧ pvTxDone s.sample.pv = false ∧
        pvMsTick s.sample.pv = false) ∨
      (s.rxReady = true ∧ pvRxErr s.sample.pv = false ∧ pvRxValid s.sample.pv = false ∧ pvMsTick s.sample.pv = false) →
    step s = .next (s.openCycle s.sample)

/-- Rule R123: strobes outside their handshake window make no difference at all to a cycle. -/
def Obligations.OutOfWindowStrobesMakeNoDifference : Prop :=
  ∀ (s : State) (x : Sample),
    (s.txValid = false → runCycle s { x with pv := x.pv &&& 0x9F } = runCycle s x) ∧
    (s.memReq = false → runCycle s { x with pv := x.pv &&& 0xF9 } = runCycle s x) ∧
    (s.rxReady = false → runCycle s { x with pv := x.pv &&& 0xE7 } = runCycle s x)

/-- Rules R113 and R207, I11: the bytes of a datagram whose length is not ACK_SIZE (2) make no difference. -/
def Obligations.BytesOfAnIllSizedDatagramMakeNoDifference : Prop :=
  ∀ (s : State) (x : Sample) (b0 b1 : Byte), x.rx.length s.params ≠ s.params.ackSize →
    runCycle s { x with rx := { x.rx with b0 := b0, b1 := b1 } } = runCycle s x

/-- Rule R246: over a step ELAPSED counts a tick exactly in a non-reset cycle that starts BUSY, saturating; a START
while not BUSY, or a reset, sets it to 0, and it holds otherwise. -/
def Obligations.ElapsedCountsBusyTicks : Prop :=
  ∀ s t : State, step s = .next t →
    (pvRst s.sample.pv = true → t.elapsed = 0) ∧
    (pvRst s.sample.pv = false → s.busy = true →
      t.elapsed.toNat = if pvMsTick s.sample.pv then min (s.elapsed.toNat + 1) (2 ^ 32 - 1) else s.elapsed.toNat) ∧
    (pvRst s.sample.pv = false → s.busy = false →
      t.elapsed = if commandsStart s.sample then 0 else s.elapsed)

/-- Rules R36, R191, R278, R283 and R350: what sets, clears and keeps IRQ_PEND. Entry to DONE or ERROR from a BUSY state
sets it, also where a STATUS write clears it in that very cycle; so does a rejected START. An accepted START clears it, and
so does a reset. In every other cycle it is kept, but for a STATUS write with bit 16 = 1, which clears it. -/
def Obligations.CompletionInterruptIsNotLost : Prop :=
  ∀ s t : State, step s = .next t →
    (pvRst s.sample.pv = true → t.irqPend = false) ∧
    (pvRst s.sample.pv = false → s.busy = true → t.state = .done ∨ t.state = .error → t.irqPend = true) ∧
    (pvRst s.sample.pv = false → s.busy = false → commandsStart s.sample = true →
      (t.irqPend = true ↔ s.check ≠ 0) ∧ (t.state = .error ↔ s.check ≠ 0)) ∧
    (pvRst s.sample.pv = false → ¬ (s.busy = true ∧ (t.state = .done ∨ t.state = .error)) →
      ¬ (s.busy = false ∧ commandsStart s.sample = true) →
      t.irqPend = if clearsIrq s.sample then false else s.irqPend)

/-- Rule R192: PKT_BUF does not change in a cycle that starts with tx_valid = 1 and MEM_PEND = 0. -/
def Obligations.OfferedPacketIsStable : Prop :=
  ∀ s t : State, step s = .next t → s.memPend = false → s.txValid = true → t.pktBuf = s.pktBuf

/-- Rules R31, R241 and R245: every entry to AWAITING_ACK arms the timer with the same value, TIMEOUT_MS[30:0]. -/
def Obligations.EveryWaitHasTheFullTimeout : Prop :=
  ∀ s t : State, step s = .next t → t.state = .awaitingAck → s.state ≠ .awaitingAck →
    t.timer.toNat = s.timeoutMs.toNat % 2 ^ 31

/-- Rules R208 and R200: a frame that is not the last is never abandoned. -/
def Obligations.OnlyTheLastFrameIsAbandoned : Prop :=
  ∀ s t : State, step s = .next t → t.state = .abandoned → s.state = .abandoned ∨ s.isLast = true

/-! ## The invariant -/

/-- The state after reset meets the invariant (rules R57, R342; PKT_BUF's contents there are the model's choice, log 2). -/
def Obligations.ResetStateMeetsTheInvariant : Prop := BlockInv State.reset

/-- Rules R35, R37, R58 and R301 for single operations: each of the thirty keeps the invariant. -/
def Obligations.EveryOperationKeepsTheInvariant : Prop :=
  ∀ (i : Instr) (s t : State), BlockInv s → exec i s = .next t → BlockInv t

/-- Rules R35, R37, R58 and R301: every step keeps the invariant. -/
def Obligations.EveryStepKeepsTheInvariant : Prop := ∀ s t : State, BlockInv s → step s = .next t → BlockInv t

/-- Rules R308 and R318: no step stops, so every run goes on for ever. -/
def Obligations.EveryStepGoesOn : Prop := ∀ s : State, BlockInv s → ∃ t, step s = .next t ∧ BlockInv t

/-- Rules R112, R164 and R165: the packet on offer is a well-formed data packet of the current frame: its bytes decode to
SEQ and IS_LAST, and every byte after the frame's FRAME_LEN payload bytes is 0x00, as is every byte between the FLAG byte
and the payload, of which there is none with HEADER_SIZE = 3. -/
def Obligations.OfferedPacketIsTheFrame : Prop :=
  ∀ s : State, BlockInv s → s.txValid = true →
    ∃ payload, decodePacket s.params s.packet = .ok (.dataPkt s.seq s.isLast payload) ∧
      ∀ k, 3 + k < s.params.headerSize ∨ s.params.headerSize + s.frameLen.toNat ≤ 3 + k →
        3 + k < s.params.packetSize → payload[k]? = some 0

/-- Rules R88, R112 and R97: while source memory answers from an image, every payload byte in the buffer is the image's
byte at SRC_BASE + OFFSET + i, and every step keeps that. -/
def Obligations.PayloadIsTheSourceBytes : Prop :=
  ∀ (image : Nat → Byte) (s t : State), BlockInv s → carries image s → answersFrom image s s.sample → step s = .next t →
    carries image t

/-- Rules R170 and R171: the frame that is the last has number N - 1 and length S - (N - 1) × PAYLOAD_SIZE, where S is
SRC_LEN and N is ceil(max(S, 1) / PAYLOAD_SIZE). -/
def Obligations.LastFrameHasTheLastNumber : Prop :=
  ∀ s : State, BlockInv s → s.busy = true → s.isLast = true →
    s.seq.toNat + 1 = (max s.srcLen.toNat 1 + s.params.payloadSize - 1) / s.params.payloadSize ∧
    s.frameLen.toNat = s.srcLen.toNat - s.seq.toNat * s.params.payloadSize

/-! ## Runs -/

/-- Rule R201: as long as the block stays in AWAITING_ACK and RETRY, every datagram it sends has the bytes that PKT_BUF
held at the start, that is, of the first transmission. -/
def Obligations.EveryResendIsIdentical : Prop :=
  ∀ (n : Nat) (s : State), s.state = .awaitingAck ∨ s.state = .retry →
    (∀ u ∈ trace n s, u.state = .awaitingAck ∨ u.state = .retry) →
    ∀ u ∈ trace n s, u.pktBuf = s.pktBuf ∧ ∀ bs, u.out.sent = some bs → bs = s.packet

/-- Rule R211: from the first wait of the last frame, a run that reaches ABANDONED without leaving BUSY has made exactly
LAST_RETRY_LIMIT retransmissions, and no run in BUSY makes more. -/
def Obligations.LastFrameIsResentExactlyToItsLimit : Prop :=
  ∀ (n : Nat) (s : State), BlockInv s → s.state = .awaitingAck → s.isLast = true → s.lastAttempts = 0 →
    (∀ u ∈ trace n s, u.busy = true) →
    countEvents 3 (trace n s) ≤ s.params.lastRetryLimit ∧
    ∀ t, (trace n s).getLast? = some t → t.state = .abandoned →
      countEvents 3 (trace n s) = s.params.lastRetryLimit ∧ t.lastAttempts.toNat = s.params.lastRetryLimit + 1

/-- Rule R248: over a run in BUSY, RETX below saturation counts the RESEND events, with one more for a retransmission that
is decided and not yet made. -/
def Obligations.RetxCountsTheResends : Prop :=
  ∀ (n : Nat) (s t : State), s.retx.toNat + n < 2 ^ 32 → (∀ u ∈ trace n s, u.busy = true) → s.busy = true →
    (trace n s).getLast? = some t →
    t.retx.toNat + s.owed = s.retx.toNat + countEvents 3 (trace n s) + t.owed

/-- Rule R247: with TIMER = T in AWAITING_ACK and no datagram, receive error or reset, fewer than T ticks leave the block
waiting with that many less on TIMER, and the T-th tick is the timeout. -/
def Obligations.TimeoutComesAtTheLastTick : Prop :=
  ∀ (xs : List Sample) (s : State) (rest : List Sample), s.state = .awaitingAck → s.inputs = xs ++ rest →
    (∀ x ∈ xs, pvRst x.pv = false ∧ pvRxErr x.pv = false ∧ pvRxValid x.pv = false) →
    (xs.countP (fun x => pvMsTick x.pv) < s.timer.toNat →
      ∃ t, Host.Core.run Sys2Proof.core xs.length s = .next t ∧ t.state = .awaitingAck ∧
        t.timer.toNat + xs.countP (fun x => pvMsTick x.pv) = s.timer.toNat) ∧
    (∀ ys y, xs = ys ++ [y] → pvMsTick y.pv = true → ys.countP (fun x => pvMsTick x.pv) + 1 = s.timer.toNat →
      ∃ t, Host.Core.run Sys2Proof.core xs.length s = .next t ∧ (t.state = .retry ∨ t.state = .abandoned) ∧
        t.timer = 0 ∧ t.out.evValid = true ∧ t.out.evCode = 2 ∧ t.out.evArg = s.seq)
end

