-- ==== Sys2Proof/Laws/Codec.lean ====
section
/-! SUPPORT. The small lemmas of the decoder's bit fields: what each field of an assembled word is. -/

namespace Sys2Proof

@[simp] theorem ArqState.ofBits_bits (st : ArqState) : ArqState.ofBits st.bits = st := by cases st <;> rfl

@[simp] theorem ArqState.bits_ofBits (b : BitVec 3) : (ArqState.ofBits b).bits = b := by revert b; decide

@[simp] theorem selState_selector (st : ArqState) (r m : Bool) : selState (selector st r m) = st := by
  cases st <;> cases r <;> cases m <;> rfl

@[simp] theorem selPktReady_selector (st : ArqState) (r m : Bool) : selPktReady (selector st r m) = r := by
  cases st <;> cases r <;> cases m <;> rfl

@[simp] theorem selMemPend_selector (st : ArqState) (r m : Bool) : selMemPend (selector st r m) = m := by
  cases st <;> cases r <;> cases m <;> rfl

/-- The selector has no bit besides its three fields. -/
theorem selector_of_fields (sel : BitVec 5) : selector (selState sel) (selPktReady sel) (selMemPend sel) = sel := by
  revert sel; decide

/-- The parts of an assembled word, for any two widths. -/
theorem extract_high {n m : Nat} (x : BitVec n) (y : BitVec m) : (x ++ y).extractLsb' m n = x := by
  ext i hi
  simp [BitVec.getElem_extractLsb', BitVec.getLsbD_append, hi]

theorem extract_low {n m : Nat} (x : BitVec n) (y : BitVec m) : (x ++ y).extractLsb' 0 m = y := by
  ext i hi
  simp [BitVec.getElem_extractLsb', BitVec.getLsbD_append, hi]

theorem append_of_extracts {n m : Nat} (z : BitVec (n + m)) : z.extractLsb' m n ++ z.extractLsb' 0 m = z := by
  ext i hi
  simp only [BitVec.getElem_append, BitVec.getElem_extractLsb']
  split
  · rw [Nat.zero_add, BitVec.getLsbD_eq_getElem hi]
  · rw [show m + (i - m) = i by omega, BitVec.getLsbD_eq_getElem hi]

theorem top_bit {n m : Nat} (x : Bool) (y : BitVec n) (z : BitVec m) :
    (BitVec.ofBool x ++ y ++ z).getLsbD (n + m) = x := by
  rw [BitVec.getLsbD_append, if_neg (by omega), Nat.add_sub_cancel, BitVec.getLsbD_append, if_neg (by omega)]
  simp

theorem extract_middle {n m : Nat} (x : Bool) (y : BitVec n) (z : BitVec m) :
    (BitVec.ofBool x ++ y ++ z).extractLsb' m n = y := by
  ext i hi
  simp [BitVec.getElem_extractLsb', BitVec.getLsbD_append, hi]

@[simp] theorem csrWe_csrWord (we : Bool) (off : BitVec 4) (w : BitVec 32) : csrWe (csrWord we off w) = we :=
  top_bit we off w

@[simp] theorem csrOff_csrWord (we : Bool) (off : BitVec 4) (w : BitVec 32) : csrOff (csrWord we off w) = off :=
  extract_middle we off w

@[simp] theorem csrWdata_csrWord (we : Bool) (off : BitVec 4) (w : BitVec 32) : csrWdata (csrWord we off w) = w :=
  extract_low (BitVec.ofBool we ++ off) w

/-- The access word has no bit besides its three fields (rule R114). -/
theorem csrWord_of_fields (a : BitVec 37) : csrWord (csrWe a) (csrOff a) (csrWdata a) = a := by
  have top : (BitVec.ofBool (csrWe a) ++ csrOff a : BitVec (1 + 4)) = a.extractLsb' 32 5 := by
    ext i hi
    simp only [BitVec.getElem_append, csrOff, csrWe, BitVec.getElem_extractLsb']
    split
    · rfl
    · obtain rfl : i = 4 := by omega
      simp
  show (BitVec.ofBool (csrWe a) ++ csrOff a) ++ csrWdata a = a
  rw [top]
  exact append_of_extracts (n := 5) (m := 32) a

@[simp] theorem ackDatagram_ackv (p : Params) (v : BitVec 16) : (ackDatagram p v).ackv = v :=
  append_of_extracts (n := 8) (m := 8) v

/-- The length of an acknowledgment, as the port carries it (rules R7 and R113). -/
theorem ackDatagram_length (p : Params) (v : BitVec 16) (h : p.Legal) : (ackDatagram p v).length p = p.ackSize := by
  obtain ⟨_, _, ⟨_, ha⟩, _, hw⟩ := h
  have : 2 ^ p.rxLenW ≤ 2 ^ 16 := Nat.pow_le_pow_right (by omega) hw
  simp only [Datagram.length, ackDatagram, BitVec.toNat_ofNat]
  rw [Nat.mod_eq_of_lt (by omega : p.ackSize < 2 ^ 16), Nat.mod_eq_of_lt ha]

/-- The datagram of a number acknowledges exactly that number (rules R113 and R197). -/
theorem ackDatagram_acknowledges (p : Params) (v seq : BitVec 16) (h : p.Legal) :
    (ackDatagram p v).acknowledges p seq = (v == seq) := by
  simp [Datagram.acknowledges, ackDatagram_length p v h]

/-- With the source's values the length is all sixteen bits of rx_len. -/
theorem length_default (d : Datagram) : d.length {} = d.len.toNat := Nat.mod_eq_of_lt d.len.isLt

@[simp] theorem eventWord_code (c : BitVec 3) (a : BitVec 16) : (eventWord c a).extractLsb' 16 3 = c := extract_high c a

@[simp] theorem eventWord_arg (c : BitVec 3) (a : BitVec 16) : (eventWord c a).extractLsb' 0 16 = a := extract_low c a

/-- The header's two sequence bytes give the sequence number back (rules R87 and R164). -/
@[simp] theorem header_seq (seq : BitVec 16) : (seq.extractLsb' 8 8 ++ seq.extractLsb' 0 8 : BitVec 16) = seq :=
  append_of_extracts (n := 8) (m := 8) seq

/-- The two states that need no input are the ones `decodeState` reads (rule R119). -/
theorem decodeState_confirm (sel : BitVec 5) : decodeState sel = some .confirm ↔ selState sel = .confirmed := by
  cases h : selState sel <;> simp [decodeState, h]

theorem decodeState_abandon (sel : BitVec 5) : decodeState sel = some .abandon ↔ selState sel = .abandoned := by
  cases h : selState sel <;> simp [decodeState, h]

end Sys2Proof
end

