-- ==== Sys2Proof/Laws/Memory.lean ====
section
/-! SUPPORT. The laws of byte memory: a read after a write, the canonical form and the bound that every write keeps, and
equal contents being equal data. -/

namespace Sys2Proof.Machine

theorem Memory.read_write_same (m : Memory) (i : Nat) (v : Byte) (h : m.wf) : (m.write i v).read i = v := by
  induction m with
  | nil => by_cases hv : v = Memory.unlisted <;> simp [Memory.write, Memory.read, hv]
  | cons c m ih =>
    obtain ⟨a, b⟩ := c
    obtain ⟨hp, hz⟩ := h
    have hm : Memory.wf m := ⟨(List.pairwise_cons.mp hp).2, fun c hc => hz c (List.mem_cons_of_mem _ hc)⟩
    have hlt := (List.pairwise_cons.mp hp).1
    have absent : ∀ m' : Memory, (∀ c ∈ m', i < c.1) → m'.read i = Memory.unlisted := by
      intro m'
      induction m' with
      | nil => intro _; rfl
      | cons d m' ih' =>
        intro hall
        have h1 := hall d (List.mem_cons_self ..)
        rw [Memory.read, if_neg (by omega)]
        exact ih' fun c hc => hall c (List.mem_cons_of_mem _ hc)
    by_cases h1 : i < a
    · by_cases hv : v = Memory.unlisted
      · have := absent ((a, b) :: m) (by
          intro c hc
          rcases List.mem_cons.mp hc with rfl | hc
          · exact h1
          · exact Nat.lt_trans h1 (hlt c hc))
        simp [Memory.write, h1, hv, this]
      · simp [Memory.write, h1, hv, Memory.read]
    · by_cases h2 : i = a
      · subst h2
        by_cases hv : v = Memory.unlisted
        · simp [Memory.write, hv, absent m fun c hc => hlt c hc]
        · simp [Memory.write, hv, Memory.read]
      · simp only [Memory.write, h1, h2, if_false, Memory.read, if_neg (fun h => h2 h.symm : ¬a = i)]
        exact ih hm

theorem Memory.read_write_other (m : Memory) (i j : Nat) (v : Byte) (h : m.wf) (hij : j ≠ i) :
    (m.write i v).read j = m.read j := by
  induction m with
  | nil => by_cases hv : v = Memory.unlisted <;> simp [Memory.write, Memory.read, hv, Ne.symm hij]
  | cons c m ih =>
    obtain ⟨a, b⟩ := c
    obtain ⟨hp, hz⟩ := h
    have hm : Memory.wf m := ⟨(List.pairwise_cons.mp hp).2, fun c hc => hz c (List.mem_cons_of_mem _ hc)⟩
    by_cases h1 : i < a
    · by_cases hv : v = Memory.unlisted
      · simp [Memory.write, h1, hv]
      · simp [Memory.write, h1, hv, Memory.read, Ne.symm hij]
    · by_cases h2 : i = a
      · subst h2
        by_cases hv : v = Memory.unlisted <;> simp [Memory.write, hv, Memory.read, Ne.symm hij]
      · simp only [Memory.write, h1, h2, if_false, Memory.read]
        rw [ih hm]

/-- What a write lists is what was listed, or the written cell. -/
theorem Memory.mem_write (m : Memory) (i : Nat) (v : Byte) (c : Host.Cell) (h : c ∈ m.write i v) :
    c ∈ m ∨ (c = (i, v) ∧ v ≠ Memory.unlisted) := by
  induction m with
  | nil =>
    by_cases hv : v = Memory.unlisted
    · simp [Memory.write, hv] at h
    · simp [Memory.write, hv] at h
      exact .inr ⟨h, hv⟩
  | cons d m ih =>
    obtain ⟨a, b⟩ := d
    by_cases h1 : i < a
    · by_cases hv : v = Memory.unlisted
      · simp only [Memory.write, h1, hv, if_true] at h
        exact .inl h
      · simp only [Memory.write, h1, hv, if_true, if_false] at h
        rcases List.mem_cons.mp h with h | h
        · exact .inr ⟨h, hv⟩
        · exact .inl h
    · by_cases h2 : i = a
      · by_cases hv : v = Memory.unlisted
        · simp only [Memory.write, h2, hv, if_true, if_false, Nat.lt_irrefl] at h
          exact .inl (List.mem_cons_of_mem _ h)
        · simp only [Memory.write, h2, hv, if_true, if_false, Nat.lt_irrefl] at h
          rcases List.mem_cons.mp h with h | h
          · exact .inr ⟨by rw [h, h2], hv⟩
          · exact .inl (List.mem_cons_of_mem _ h)
      · simp only [Memory.write, h1, h2, if_false] at h
        rcases List.mem_cons.mp h with h | h
        · exact .inl (h ▸ List.mem_cons_self ..)
        · rcases ih h with h | h
          · exact .inl (List.mem_cons_of_mem _ h)
          · exact .inr h

theorem Memory.write_wf (m : Memory) (i : Nat) (v : Byte) (h : m.wf) : (m.write i v).wf := by
  refine ⟨?_, fun c hc => ?_⟩
  · induction m with
    | nil => by_cases hv : v = Memory.unlisted <;> simp [Memory.write, hv]
    | cons d m ih =>
      obtain ⟨a, b⟩ := d
      obtain ⟨hp, hz⟩ := h
      have ⟨hlt, hpm⟩ := List.pairwise_cons.mp hp
      have hm : Memory.wf m := ⟨hpm, fun c hc => hz c (List.mem_cons_of_mem _ hc)⟩
      by_cases h1 : i < a
      · by_cases hv : v = Memory.unlisted
        · simp only [Memory.write, h1, hv, if_true]
          exact hp
        · simp only [Memory.write, h1, hv, if_true, if_false]
          refine List.pairwise_cons.mpr ⟨fun c hc => ?_, hp⟩
          rcases List.mem_cons.mp hc with rfl | hc
          · exact h1
          · exact Nat.lt_trans h1 (hlt c hc)
      · by_cases h2 : i = a
        · by_cases hv : v = Memory.unlisted
          · simp only [Memory.write, h2, hv, if_true, if_false, Nat.lt_irrefl]
            exact hpm
          · simp only [Memory.write, h2, hv, if_true, if_false, Nat.lt_irrefl]
            exact List.pairwise_cons.mpr ⟨hlt, hpm⟩
        · simp only [Memory.write, h1, h2, if_false]
          refine List.pairwise_cons.mpr ⟨fun c hc => ?_, ih hm⟩
          rcases Memory.mem_write m i v c hc with hc | ⟨rfl, _⟩
          · exact hlt c hc
          · show a < i
            omega
  · rcases Memory.mem_write m i v c hc with hc | ⟨rfl, hv⟩
    · exact h.2 c hc
    · exact hv

theorem Memory.write_within (n : Nat) (m : Memory) (i : Nat) (v : Byte) (h : m.within n) (hi : i < n) :
    (m.write i v).within n := by
  intro c hc
  rcases Memory.mem_write m i v c hc with hc | ⟨rfl, _⟩
  · exact h c hc
  · exact hi

/-- The entries of a canonical memory are the addresses that do not read as an unlisted one. -/
theorem Memory.read_of_mem (m : Memory) (h : m.wf) (c : Host.Cell) (hc : c ∈ m) : m.read c.1 = c.2 := by
  induction m with
  | nil => cases hc
  | cons d m ih =>
    obtain ⟨hp, hz⟩ := h
    have ⟨hlt, hpm⟩ := List.pairwise_cons.mp hp
    rcases List.mem_cons.mp hc with rfl | hc
    · simp [Memory.read]
    · have := hlt c hc
      rw [Memory.read, if_neg (by omega)]
      exact ih ⟨hpm, fun c hc => hz c (List.mem_cons_of_mem _ hc)⟩ hc

theorem Memory.mem_of_read (m : Memory) (i : Nat) (h : m.read i ≠ Memory.unlisted) : (i, m.read i) ∈ m := by
  induction m with
  | nil => exact absurd rfl h
  | cons d m ih =>
    obtain ⟨a, b⟩ := d
    by_cases ha : a = i
    · simp [Memory.read, ha]
    · rw [Memory.read, if_neg ha] at h ⊢
      exact List.mem_cons_of_mem _ (ih h)

/-- Equal contents are equal data. -/
theorem Memory.ext_of_read (m m' : Memory) (h : m.wf) (h' : m'.wf) (hr : ∀ i, m.read i = m'.read i) : m = m' := by
  have sub : ∀ x y : Memory, x.wf → y.wf → (∀ i, x.read i = y.read i) → ∀ c ∈ x, c ∈ y := by
    intro x y hx hy hxy c hc
    have hv := Memory.read_of_mem x hx c hc
    have hm := Memory.mem_of_read y c.1 (by rw [← hxy, hv]; exact hx.2 c hc)
    rw [← hxy, hv] at hm
    exact hm
  induction m generalizing m' with
  | nil =>
    cases m' with
    | nil => rfl
    | cons d _ => exact absurd (sub _ _ h' h (fun i => (hr i).symm) d (List.mem_cons_self ..)) List.not_mem_nil
  | cons d m ih =>
    cases m' with
    | nil => exact absurd (sub _ _ h h' hr d (List.mem_cons_self ..)) List.not_mem_nil
    | cons d' m' =>
      have ⟨hlt, hpm⟩ := List.pairwise_cons.mp h.1
      have ⟨hlt', hpm'⟩ := List.pairwise_cons.mp h'.1
      have e : d = d' := by
        rcases List.mem_cons.mp (sub _ _ h h' hr d (List.mem_cons_self ..)) with e | hin
        · exact e
        · rcases List.mem_cons.mp (sub _ _ h' h (fun i => (hr i).symm) d' (List.mem_cons_self ..)) with e | hin'
          · exact e.symm
          · have h1 := hlt' d hin
            have h2 := hlt d' hin'
            omega
      subst e
      have tail : m = m' := by
        refine ih m' ⟨hpm, fun c hc => h.2 c (List.mem_cons_of_mem _ hc)⟩
          ⟨hpm', fun c hc => h'.2 c (List.mem_cons_of_mem _ hc)⟩ (fun i => ?_)
        have := hr i
        by_cases hi : d.1 = i
        · have none : ∀ x : Memory, (∀ c ∈ x, d.1 < c.1) → x.read i = Memory.unlisted := by
            intro x hx
            by_contra hne
            have := hx _ (Memory.mem_of_read x i hne)
            simp only at this
            omega
          rw [none m hlt, none m' hlt']
        · simpa [Memory.read, hi] using this
      rw [tail]

end Sys2Proof.Machine
end

