-- ==== Sys2Proof/Laws/State.lean ====
section
/-! SUPPORT. The state's small lemmas: for each shared update, what each field of the state is after it. Every one is
true by rfl, so that no later proof unfolds a record update. -/

namespace Sys2Proof.Machine

/-! ## emit -/

@[simp] theorem State.emit_state (s : State) (code : BitVec 3) (arg : BitVec 16) : (s.emit code arg).state = s.state := rfl
@[simp] theorem State.emit_seq (s : State) (code : BitVec 3) (arg : BitVec 16) : (s.emit code arg).seq = s.seq := rfl
@[simp] theorem State.emit_offset (s : State) (code : BitVec 3) (arg : BitVec 16) : (s.emit code arg).offset = s.offset := rfl
@[simp] theorem State.emit_frameLen (s : State) (code : BitVec 3) (arg : BitVec 16) : (s.emit code arg).frameLen = s.frameLen := rfl
@[simp] theorem State.emit_isLast (s : State) (code : BitVec 3) (arg : BitVec 16) : (s.emit code arg).isLast = s.isLast := rfl
@[simp] theorem State.emit_lastAttempts (s : State) (code : BitVec 3) (arg : BitVec 16) : (s.emit code arg).lastAttempts = s.lastAttempts := rfl
@[simp] theorem State.emit_retx (s : State) (code : BitVec 3) (arg : BitVec 16) : (s.emit code arg).retx = s.retx := rfl
@[simp] theorem State.emit_timer (s : State) (code : BitVec 3) (arg : BitVec 16) : (s.emit code arg).timer = s.timer := rfl
@[simp] theorem State.emit_elapsed (s : State) (code : BitVec 3) (arg : BitVec 16) : (s.emit code arg).elapsed = s.elapsed := rfl
@[simp] theorem State.emit_bytes (s : State) (code : BitVec 3) (arg : BitVec 16) : (s.emit code arg).bytes = s.bytes := rfl
@[simp] theorem State.emit_abandoned (s : State) (code : BitVec 3) (arg : BitVec 16) : (s.emit code arg).abandoned = s.abandoned := rfl
@[simp] theorem State.emit_errCode (s : State) (code : BitVec 3) (arg : BitVec 16) : (s.emit code arg).errCode = s.errCode := rfl
@[simp] theorem State.emit_errState (s : State) (code : BitVec 3) (arg : BitVec 16) : (s.emit code arg).errState = s.errState := rfl
@[simp] theorem State.emit_irqPend (s : State) (code : BitVec 3) (arg : BitVec 16) : (s.emit code arg).irqPend = s.irqPend := rfl
@[simp] theorem State.emit_irqEn (s : State) (code : BitVec 3) (arg : BitVec 16) : (s.emit code arg).irqEn = s.irqEn := rfl
@[simp] theorem State.emit_pktReady (s : State) (code : BitVec 3) (arg : BitVec 16) : (s.emit code arg).pktReady = s.pktReady := rfl
@[simp] theorem State.emit_memPend (s : State) (code : BitVec 3) (arg : BitVec 16) : (s.emit code arg).memPend = s.memPend := rfl
@[simp] theorem State.emit_memIdx (s : State) (code : BitVec 3) (arg : BitVec 16) : (s.emit code arg).memIdx = s.memIdx := rfl
@[simp] theorem State.emit_srcBase (s : State) (code : BitVec 3) (arg : BitVec 16) : (s.emit code arg).srcBase = s.srcBase := rfl
@[simp] theorem State.emit_srcLen (s : State) (code : BitVec 3) (arg : BitVec 16) : (s.emit code arg).srcLen = s.srcLen := rfl
@[simp] theorem State.emit_timeoutMs (s : State) (code : BitVec 3) (arg : BitVec 16) : (s.emit code arg).timeoutMs = s.timeoutMs := rfl
@[simp] theorem State.emit_pktBuf (s : State) (code : BitVec 3) (arg : BitVec 16) : (s.emit code arg).pktBuf = s.pktBuf := rfl
@[simp] theorem State.emit_params (s : State) (code : BitVec 3) (arg : BitVec 16) : (s.emit code arg).params = s.params := rfl
@[simp] theorem State.emit_inputs (s : State) (code : BitVec 3) (arg : BitVec 16) : (s.emit code arg).inputs = s.inputs := rfl
@[simp] theorem State.emit_cycle (s : State) (code : BitVec 3) (arg : BitVec 16) : (s.emit code arg).cycle = s.cycle := rfl
@[simp] theorem State.emit_out (s : State) (code : BitVec 3) (arg : BitVec 16) : (s.emit code arg).out = { s.out with evValid := true, evCode := code, evArg := arg } := rfl

/-! ## send -/

@[simp] theorem State.send_state (s : State) : s.send.state = s.state := rfl
@[simp] theorem State.send_seq (s : State) : s.send.seq = s.seq := rfl
@[simp] theorem State.send_offset (s : State) : s.send.offset = s.offset := rfl
@[simp] theorem State.send_frameLen (s : State) : s.send.frameLen = s.frameLen := rfl
@[simp] theorem State.send_isLast (s : State) : s.send.isLast = s.isLast := rfl
@[simp] theorem State.send_lastAttempts (s : State) : s.send.lastAttempts = s.lastAttempts := rfl
@[simp] theorem State.send_retx (s : State) : s.send.retx = s.retx := rfl
@[simp] theorem State.send_timer (s : State) : s.send.timer = s.timer := rfl
@[simp] theorem State.send_elapsed (s : State) : s.send.elapsed = s.elapsed := rfl
@[simp] theorem State.send_bytes (s : State) : s.send.bytes = s.bytes := rfl
@[simp] theorem State.send_abandoned (s : State) : s.send.abandoned = s.abandoned := rfl
@[simp] theorem State.send_errCode (s : State) : s.send.errCode = s.errCode := rfl
@[simp] theorem State.send_errState (s : State) : s.send.errState = s.errState := rfl
@[simp] theorem State.send_irqPend (s : State) : s.send.irqPend = s.irqPend := rfl
@[simp] theorem State.send_irqEn (s : State) : s.send.irqEn = s.irqEn := rfl
@[simp] theorem State.send_pktReady (s : State) : s.send.pktReady = s.pktReady := rfl
@[simp] theorem State.send_memPend (s : State) : s.send.memPend = s.memPend := rfl
@[simp] theorem State.send_memIdx (s : State) : s.send.memIdx = s.memIdx := rfl
@[simp] theorem State.send_srcBase (s : State) : s.send.srcBase = s.srcBase := rfl
@[simp] theorem State.send_srcLen (s : State) : s.send.srcLen = s.srcLen := rfl
@[simp] theorem State.send_timeoutMs (s : State) : s.send.timeoutMs = s.timeoutMs := rfl
@[simp] theorem State.send_pktBuf (s : State) : s.send.pktBuf = s.pktBuf := rfl
@[simp] theorem State.send_params (s : State) : s.send.params = s.params := rfl
@[simp] theorem State.send_inputs (s : State) : s.send.inputs = s.inputs := rfl
@[simp] theorem State.send_cycle (s : State) : s.send.cycle = s.cycle := rfl
@[simp] theorem State.send_out (s : State) : s.send.out = { s.out with sent := some s.packet } := rfl

/-! ## fatal -/

@[simp] theorem State.fatal_state (s : State) (code : BitVec 4) : (s.fatal code).state = .error := rfl
@[simp] theorem State.fatal_seq (s : State) (code : BitVec 4) : (s.fatal code).seq = s.seq := rfl
@[simp] theorem State.fatal_offset (s : State) (code : BitVec 4) : (s.fatal code).offset = s.offset := rfl
@[simp] theorem State.fatal_frameLen (s : State) (code : BitVec 4) : (s.fatal code).frameLen = s.frameLen := rfl
@[simp] theorem State.fatal_isLast (s : State) (code : BitVec 4) : (s.fatal code).isLast = s.isLast := rfl
@[simp] theorem State.fatal_lastAttempts (s : State) (code : BitVec 4) : (s.fatal code).lastAttempts = s.lastAttempts := rfl
@[simp] theorem State.fatal_retx (s : State) (code : BitVec 4) : (s.fatal code).retx = s.retx := rfl
@[simp] theorem State.fatal_timer (s : State) (code : BitVec 4) : (s.fatal code).timer = s.timer := rfl
@[simp] theorem State.fatal_elapsed (s : State) (code : BitVec 4) : (s.fatal code).elapsed = s.elapsed := rfl
@[simp] theorem State.fatal_bytes (s : State) (code : BitVec 4) : (s.fatal code).bytes = s.bytes := rfl
@[simp] theorem State.fatal_abandoned (s : State) (code : BitVec 4) : (s.fatal code).abandoned = s.abandoned := rfl
@[simp] theorem State.fatal_errCode (s : State) (code : BitVec 4) : (s.fatal code).errCode = code := rfl
@[simp] theorem State.fatal_errState (s : State) (code : BitVec 4) : (s.fatal code).errState = s.state := rfl
@[simp] theorem State.fatal_irqPend (s : State) (code : BitVec 4) : (s.fatal code).irqPend = true := rfl
@[simp] theorem State.fatal_irqEn (s : State) (code : BitVec 4) : (s.fatal code).irqEn = s.irqEn := rfl
@[simp] theorem State.fatal_pktReady (s : State) (code : BitVec 4) : (s.fatal code).pktReady = s.pktReady := rfl
@[simp] theorem State.fatal_memPend (s : State) (code : BitVec 4) : (s.fatal code).memPend = s.memPend := rfl
@[simp] theorem State.fatal_memIdx (s : State) (code : BitVec 4) : (s.fatal code).memIdx = s.memIdx := rfl
@[simp] theorem State.fatal_srcBase (s : State) (code : BitVec 4) : (s.fatal code).srcBase = s.srcBase := rfl
@[simp] theorem State.fatal_srcLen (s : State) (code : BitVec 4) : (s.fatal code).srcLen = s.srcLen := rfl
@[simp] theorem State.fatal_timeoutMs (s : State) (code : BitVec 4) : (s.fatal code).timeoutMs = s.timeoutMs := rfl
@[simp] theorem State.fatal_pktBuf (s : State) (code : BitVec 4) : (s.fatal code).pktBuf = s.pktBuf := rfl
@[simp] theorem State.fatal_params (s : State) (code : BitVec 4) : (s.fatal code).params = s.params := rfl
@[simp] theorem State.fatal_inputs (s : State) (code : BitVec 4) : (s.fatal code).inputs = s.inputs := rfl
@[simp] theorem State.fatal_cycle (s : State) (code : BitVec 4) : (s.fatal code).cycle = s.cycle := rfl
@[simp] theorem State.fatal_out (s : State) (code : BitVec 4) : (s.fatal code).out = { s.out with evValid := true, evCode := 6, evArg := fatalArg code } := rfl

/-! ## startInit -/

@[simp] theorem State.startInit_state (s : State) : s.startInit.state = s.state := rfl
@[simp] theorem State.startInit_seq (s : State) : s.startInit.seq = 0 := rfl
@[simp] theorem State.startInit_offset (s : State) : s.startInit.offset = 0 := rfl
@[simp] theorem State.startInit_frameLen (s : State) : s.startInit.frameLen = 0 := rfl
@[simp] theorem State.startInit_isLast (s : State) : s.startInit.isLast = false := rfl
@[simp] theorem State.startInit_lastAttempts (s : State) : s.startInit.lastAttempts = 0 := rfl
@[simp] theorem State.startInit_retx (s : State) : s.startInit.retx = 0 := rfl
@[simp] theorem State.startInit_timer (s : State) : s.startInit.timer = 0 := rfl
@[simp] theorem State.startInit_elapsed (s : State) : s.startInit.elapsed = 0 := rfl
@[simp] theorem State.startInit_bytes (s : State) : s.startInit.bytes = 0 := rfl
@[simp] theorem State.startInit_abandoned (s : State) : s.startInit.abandoned = false := rfl
@[simp] theorem State.startInit_errCode (s : State) : s.startInit.errCode = 0 := rfl
@[simp] theorem State.startInit_errState (s : State) : s.startInit.errState = .idle := rfl
@[simp] theorem State.startInit_irqPend (s : State) : s.startInit.irqPend = false := rfl
@[simp] theorem State.startInit_irqEn (s : State) : s.startInit.irqEn = s.irqEn := rfl
@[simp] theorem State.startInit_pktReady (s : State) : s.startInit.pktReady = false := rfl
@[simp] theorem State.startInit_memPend (s : State) : s.startInit.memPend = false := rfl
@[simp] theorem State.startInit_memIdx (s : State) : s.startInit.memIdx = 0 := rfl
@[simp] theorem State.startInit_srcBase (s : State) : s.startInit.srcBase = s.srcBase := rfl
@[simp] theorem State.startInit_srcLen (s : State) : s.startInit.srcLen = s.srcLen := rfl
@[simp] theorem State.startInit_timeoutMs (s : State) : s.startInit.timeoutMs = s.timeoutMs := rfl
@[simp] theorem State.startInit_pktBuf (s : State) : s.startInit.pktBuf = s.pktBuf := rfl
@[simp] theorem State.startInit_params (s : State) : s.startInit.params = s.params := rfl
@[simp] theorem State.startInit_inputs (s : State) : s.startInit.inputs = s.inputs := rfl
@[simp] theorem State.startInit_cycle (s : State) : s.startInit.cycle = s.cycle := rfl
@[simp] theorem State.startInit_out (s : State) : s.startInit.out = s.out := rfl

/-! ## setupFrame -/

@[simp] theorem State.setupFrame_state (s : State) (last : Bool) (len : BitVec 11) : (s.setupFrame last len).state = .awaitingSend := rfl
@[simp] theorem State.setupFrame_seq (s : State) (last : Bool) (len : BitVec 11) : (s.setupFrame last len).seq = s.seq := rfl
@[simp] theorem State.setupFrame_offset (s : State) (last : Bool) (len : BitVec 11) : (s.setupFrame last len).offset = s.offset := rfl
@[simp] theorem State.setupFrame_frameLen (s : State) (last : Bool) (len : BitVec 11) : (s.setupFrame last len).frameLen = len := rfl
@[simp] theorem State.setupFrame_isLast (s : State) (last : Bool) (len : BitVec 11) : (s.setupFrame last len).isLast = last := rfl
@[simp] theorem State.setupFrame_lastAttempts (s : State) (last : Bool) (len : BitVec 11) : (s.setupFrame last len).lastAttempts = 0 := rfl
@[simp] theorem State.setupFrame_retx (s : State) (last : Bool) (len : BitVec 11) : (s.setupFrame last len).retx = s.retx := rfl
@[simp] theorem State.setupFrame_timer (s : State) (last : Bool) (len : BitVec 11) : (s.setupFrame last len).timer = s.timer := rfl
@[simp] theorem State.setupFrame_elapsed (s : State) (last : Bool) (len : BitVec 11) : (s.setupFrame last len).elapsed = s.elapsed := rfl
@[simp] theorem State.setupFrame_bytes (s : State) (last : Bool) (len : BitVec 11) : (s.setupFrame last len).bytes = s.bytes := rfl
@[simp] theorem State.setupFrame_abandoned (s : State) (last : Bool) (len : BitVec 11) : (s.setupFrame last len).abandoned = s.abandoned := rfl
@[simp] theorem State.setupFrame_errCode (s : State) (last : Bool) (len : BitVec 11) : (s.setupFrame last len).errCode = s.errCode := rfl
@[simp] theorem State.setupFrame_errState (s : State) (last : Bool) (len : BitVec 11) : (s.setupFrame last len).errState = s.errState := rfl
@[simp] theorem State.setupFrame_irqPend (s : State) (last : Bool) (len : BitVec 11) : (s.setupFrame last len).irqPend = s.irqPend := rfl
@[simp] theorem State.setupFrame_irqEn (s : State) (last : Bool) (len : BitVec 11) : (s.setupFrame last len).irqEn = s.irqEn := rfl
@[simp] theorem State.setupFrame_pktReady (s : State) (last : Bool) (len : BitVec 11) : (s.setupFrame last len).pktReady = (len == 0) := rfl
@[simp] theorem State.setupFrame_memPend (s : State) (last : Bool) (len : BitVec 11) : (s.setupFrame last len).memPend = (len != 0) := rfl
@[simp] theorem State.setupFrame_memIdx (s : State) (last : Bool) (len : BitVec 11) : (s.setupFrame last len).memIdx = 0 := rfl
@[simp] theorem State.setupFrame_srcBase (s : State) (last : Bool) (len : BitVec 11) : (s.setupFrame last len).srcBase = s.srcBase := rfl
@[simp] theorem State.setupFrame_srcLen (s : State) (last : Bool) (len : BitVec 11) : (s.setupFrame last len).srcLen = s.srcLen := rfl
@[simp] theorem State.setupFrame_timeoutMs (s : State) (last : Bool) (len : BitVec 11) : (s.setupFrame last len).timeoutMs = s.timeoutMs := rfl
@[simp] theorem State.setupFrame_pktBuf (s : State) (last : Bool) (len : BitVec 11) : (s.setupFrame last len).pktBuf = headerBuffer s.seq last := rfl
@[simp] theorem State.setupFrame_params (s : State) (last : Bool) (len : BitVec 11) : (s.setupFrame last len).params = s.params := rfl
@[simp] theorem State.setupFrame_inputs (s : State) (last : Bool) (len : BitVec 11) : (s.setupFrame last len).inputs = s.inputs := rfl
@[simp] theorem State.setupFrame_cycle (s : State) (last : Bool) (len : BitVec 11) : (s.setupFrame last len).cycle = s.cycle := rfl
@[simp] theorem State.setupFrame_out (s : State) (last : Bool) (len : BitVec 11) : (s.setupFrame last len).out = s.out := rfl

/-! ## awaitAck -/

@[simp] theorem State.awaitAck_state (s : State) : s.awaitAck.state = .awaitingAck := rfl
@[simp] theorem State.awaitAck_seq (s : State) : s.awaitAck.seq = s.seq := rfl
@[simp] theorem State.awaitAck_offset (s : State) : s.awaitAck.offset = s.offset := rfl
@[simp] theorem State.awaitAck_frameLen (s : State) : s.awaitAck.frameLen = s.frameLen := rfl
@[simp] theorem State.awaitAck_isLast (s : State) : s.awaitAck.isLast = s.isLast := rfl
@[simp] theorem State.awaitAck_lastAttempts (s : State) : s.awaitAck.lastAttempts = s.lastAttempts := rfl
@[simp] theorem State.awaitAck_retx (s : State) : s.awaitAck.retx = s.retx := rfl
@[simp] theorem State.awaitAck_timer (s : State) : s.awaitAck.timer = timerLoad s.timeoutMs := rfl
@[simp] theorem State.awaitAck_elapsed (s : State) : s.awaitAck.elapsed = s.elapsed := rfl
@[simp] theorem State.awaitAck_bytes (s : State) : s.awaitAck.bytes = s.bytes := rfl
@[simp] theorem State.awaitAck_abandoned (s : State) : s.awaitAck.abandoned = s.abandoned := rfl
@[simp] theorem State.awaitAck_errCode (s : State) : s.awaitAck.errCode = s.errCode := rfl
@[simp] theorem State.awaitAck_errState (s : State) : s.awaitAck.errState = s.errState := rfl
@[simp] theorem State.awaitAck_irqPend (s : State) : s.awaitAck.irqPend = s.irqPend := rfl
@[simp] theorem State.awaitAck_irqEn (s : State) : s.awaitAck.irqEn = s.irqEn := rfl
@[simp] theorem State.awaitAck_pktReady (s : State) : s.awaitAck.pktReady = s.pktReady := rfl
@[simp] theorem State.awaitAck_memPend (s : State) : s.awaitAck.memPend = s.memPend := rfl
@[simp] theorem State.awaitAck_memIdx (s : State) : s.awaitAck.memIdx = s.memIdx := rfl
@[simp] theorem State.awaitAck_srcBase (s : State) : s.awaitAck.srcBase = s.srcBase := rfl
@[simp] theorem State.awaitAck_srcLen (s : State) : s.awaitAck.srcLen = s.srcLen := rfl
@[simp] theorem State.awaitAck_timeoutMs (s : State) : s.awaitAck.timeoutMs = s.timeoutMs := rfl
@[simp] theorem State.awaitAck_pktBuf (s : State) : s.awaitAck.pktBuf = s.pktBuf := rfl
@[simp] theorem State.awaitAck_params (s : State) : s.awaitAck.params = s.params := rfl
@[simp] theorem State.awaitAck_inputs (s : State) : s.awaitAck.inputs = s.inputs := rfl
@[simp] theorem State.awaitAck_cycle (s : State) : s.awaitAck.cycle = s.cycle := rfl
@[simp] theorem State.awaitAck_out (s : State) : s.awaitAck.out = s.out := rfl

/-! ## toRetry -/

@[simp] theorem State.toRetry_state (s : State) : s.toRetry.state = .retry := rfl
@[simp] theorem State.toRetry_seq (s : State) : s.toRetry.seq = s.seq := rfl
@[simp] theorem State.toRetry_offset (s : State) : s.toRetry.offset = s.offset := rfl
@[simp] theorem State.toRetry_frameLen (s : State) : s.toRetry.frameLen = s.frameLen := rfl
@[simp] theorem State.toRetry_isLast (s : State) : s.toRetry.isLast = s.isLast := rfl
@[simp] theorem State.toRetry_lastAttempts (s : State) : s.toRetry.lastAttempts = s.lastAttempts := rfl
@[simp] theorem State.toRetry_retx (s : State) : s.toRetry.retx = sat 32 (s.retx.toNat + 1) := rfl
@[simp] theorem State.toRetry_timer (s : State) : s.toRetry.timer = s.timer := rfl
@[simp] theorem State.toRetry_elapsed (s : State) : s.toRetry.elapsed = s.elapsed := rfl
@[simp] theorem State.toRetry_bytes (s : State) : s.toRetry.bytes = s.bytes := rfl
@[simp] theorem State.toRetry_abandoned (s : State) : s.toRetry.abandoned = s.abandoned := rfl
@[simp] theorem State.toRetry_errCode (s : State) : s.toRetry.errCode = s.errCode := rfl
@[simp] theorem State.toRetry_errState (s : State) : s.toRetry.errState = s.errState := rfl
@[simp] theorem State.toRetry_irqPend (s : State) : s.toRetry.irqPend = s.irqPend := rfl
@[simp] theorem State.toRetry_irqEn (s : State) : s.toRetry.irqEn = s.irqEn := rfl
@[simp] theorem State.toRetry_pktReady (s : State) : s.toRetry.pktReady = s.pktReady := rfl
@[simp] theorem State.toRetry_memPend (s : State) : s.toRetry.memPend = s.memPend := rfl
@[simp] theorem State.toRetry_memIdx (s : State) : s.toRetry.memIdx = s.memIdx := rfl
@[simp] theorem State.toRetry_srcBase (s : State) : s.toRetry.srcBase = s.srcBase := rfl
@[simp] theorem State.toRetry_srcLen (s : State) : s.toRetry.srcLen = s.srcLen := rfl
@[simp] theorem State.toRetry_timeoutMs (s : State) : s.toRetry.timeoutMs = s.timeoutMs := rfl
@[simp] theorem State.toRetry_pktBuf (s : State) : s.toRetry.pktBuf = s.pktBuf := rfl
@[simp] theorem State.toRetry_params (s : State) : s.toRetry.params = s.params := rfl
@[simp] theorem State.toRetry_inputs (s : State) : s.toRetry.inputs = s.inputs := rfl
@[simp] theorem State.toRetry_cycle (s : State) : s.toRetry.cycle = s.cycle := rfl
@[simp] theorem State.toRetry_out (s : State) : s.toRetry.out = s.out := rfl

/-! ## accept -/

@[simp] theorem State.accept_state (s : State) : s.accept.state = .confirmed := rfl
@[simp] theorem State.accept_seq (s : State) : s.accept.seq = s.seq := rfl
@[simp] theorem State.accept_offset (s : State) : s.accept.offset = s.offset := rfl
@[simp] theorem State.accept_frameLen (s : State) : s.accept.frameLen = s.frameLen := rfl
@[simp] theorem State.accept_isLast (s : State) : s.accept.isLast = s.isLast := rfl
@[simp] theorem State.accept_lastAttempts (s : State) : s.accept.lastAttempts = s.lastAttempts := rfl
@[simp] theorem State.accept_retx (s : State) : s.accept.retx = s.retx := rfl
@[simp] theorem State.accept_timer (s : State) : s.accept.timer = s.timer := rfl
@[simp] theorem State.accept_elapsed (s : State) : s.accept.elapsed = s.elapsed := rfl
@[simp] theorem State.accept_bytes (s : State) : s.accept.bytes = s.bytes := rfl
@[simp] theorem State.accept_abandoned (s : State) : s.accept.abandoned = s.abandoned := rfl
@[simp] theorem State.accept_errCode (s : State) : s.accept.errCode = s.errCode := rfl
@[simp] theorem State.accept_errState (s : State) : s.accept.errState = s.errState := rfl
@[simp] theorem State.accept_irqPend (s : State) : s.accept.irqPend = s.irqPend := rfl
@[simp] theorem State.accept_irqEn (s : State) : s.accept.irqEn = s.irqEn := rfl
@[simp] theorem State.accept_pktReady (s : State) : s.accept.pktReady = s.pktReady := rfl
@[simp] theorem State.accept_memPend (s : State) : s.accept.memPend = s.memPend := rfl
@[simp] theorem State.accept_memIdx (s : State) : s.accept.memIdx = s.memIdx := rfl
@[simp] theorem State.accept_srcBase (s : State) : s.accept.srcBase = s.srcBase := rfl
@[simp] theorem State.accept_srcLen (s : State) : s.accept.srcLen = s.srcLen := rfl
@[simp] theorem State.accept_timeoutMs (s : State) : s.accept.timeoutMs = s.timeoutMs := rfl
@[simp] theorem State.accept_pktBuf (s : State) : s.accept.pktBuf = s.pktBuf := rfl
@[simp] theorem State.accept_params (s : State) : s.accept.params = s.params := rfl
@[simp] theorem State.accept_inputs (s : State) : s.accept.inputs = s.inputs := rfl
@[simp] theorem State.accept_cycle (s : State) : s.accept.cycle = s.cycle := rfl
@[simp] theorem State.accept_out (s : State) : s.accept.out = { s.out with evValid := true, evCode := 4, evArg := s.seq } := rfl

/-! ## complete -/

@[simp] theorem State.complete_state (s : State) : s.complete.state = .done := rfl
@[simp] theorem State.complete_seq (s : State) : s.complete.seq = s.seq := rfl
@[simp] theorem State.complete_offset (s : State) : s.complete.offset = s.offset := rfl
@[simp] theorem State.complete_frameLen (s : State) : s.complete.frameLen = s.frameLen := rfl
@[simp] theorem State.complete_isLast (s : State) : s.complete.isLast = s.isLast := rfl
@[simp] theorem State.complete_lastAttempts (s : State) : s.complete.lastAttempts = s.lastAttempts := rfl
@[simp] theorem State.complete_retx (s : State) : s.complete.retx = s.retx := rfl
@[simp] theorem State.complete_timer (s : State) : s.complete.timer = s.timer := rfl
@[simp] theorem State.complete_elapsed (s : State) : s.complete.elapsed = s.elapsed := rfl
@[simp] theorem State.complete_bytes (s : State) : s.complete.bytes = s.srcLen := rfl
@[simp] theorem State.complete_abandoned (s : State) : s.complete.abandoned = s.abandoned := rfl
@[simp] theorem State.complete_errCode (s : State) : s.complete.errCode = s.errCode := rfl
@[simp] theorem State.complete_errState (s : State) : s.complete.errState = s.errState := rfl
@[simp] theorem State.complete_irqPend (s : State) : s.complete.irqPend = true := rfl
@[simp] theorem State.complete_irqEn (s : State) : s.complete.irqEn = s.irqEn := rfl
@[simp] theorem State.complete_pktReady (s : State) : s.complete.pktReady = s.pktReady := rfl
@[simp] theorem State.complete_memPend (s : State) : s.complete.memPend = s.memPend := rfl
@[simp] theorem State.complete_memIdx (s : State) : s.complete.memIdx = s.memIdx := rfl
@[simp] theorem State.complete_srcBase (s : State) : s.complete.srcBase = s.srcBase := rfl
@[simp] theorem State.complete_srcLen (s : State) : s.complete.srcLen = s.srcLen := rfl
@[simp] theorem State.complete_timeoutMs (s : State) : s.complete.timeoutMs = s.timeoutMs := rfl
@[simp] theorem State.complete_pktBuf (s : State) : s.complete.pktBuf = s.pktBuf := rfl
@[simp] theorem State.complete_params (s : State) : s.complete.params = s.params := rfl
@[simp] theorem State.complete_inputs (s : State) : s.complete.inputs = s.inputs := rfl
@[simp] theorem State.complete_cycle (s : State) : s.complete.cycle = s.cycle := rfl
@[simp] theorem State.complete_out (s : State) : s.complete.out = s.out := rfl

/-! ## openCycle -/

@[simp] theorem State.openCycle_state (s : State) (x : Sample) : (s.openCycle x).state = s.state := rfl
@[simp] theorem State.openCycle_seq (s : State) (x : Sample) : (s.openCycle x).seq = s.seq := rfl
@[simp] theorem State.openCycle_offset (s : State) (x : Sample) : (s.openCycle x).offset = s.offset := rfl
@[simp] theorem State.openCycle_frameLen (s : State) (x : Sample) : (s.openCycle x).frameLen = s.frameLen := rfl
@[simp] theorem State.openCycle_isLast (s : State) (x : Sample) : (s.openCycle x).isLast = s.isLast := rfl
@[simp] theorem State.openCycle_lastAttempts (s : State) (x : Sample) : (s.openCycle x).lastAttempts = s.lastAttempts := rfl
@[simp] theorem State.openCycle_retx (s : State) (x : Sample) : (s.openCycle x).retx = s.retx := rfl
@[simp] theorem State.openCycle_timer (s : State) (x : Sample) : (s.openCycle x).timer = s.timer := rfl
@[simp] theorem State.openCycle_elapsed (s : State) (x : Sample) : (s.openCycle x).elapsed = s.elapsed := rfl
@[simp] theorem State.openCycle_bytes (s : State) (x : Sample) : (s.openCycle x).bytes = s.bytes := rfl
@[simp] theorem State.openCycle_abandoned (s : State) (x : Sample) : (s.openCycle x).abandoned = s.abandoned := rfl
@[simp] theorem State.openCycle_errCode (s : State) (x : Sample) : (s.openCycle x).errCode = s.errCode := rfl
@[simp] theorem State.openCycle_errState (s : State) (x : Sample) : (s.openCycle x).errState = s.errState := rfl
@[simp] theorem State.openCycle_irqPend (s : State) (x : Sample) : (s.openCycle x).irqPend = s.irqPend := rfl
@[simp] theorem State.openCycle_irqEn (s : State) (x : Sample) : (s.openCycle x).irqEn = s.irqEn := rfl
@[simp] theorem State.openCycle_pktReady (s : State) (x : Sample) : (s.openCycle x).pktReady = s.pktReady := rfl
@[simp] theorem State.openCycle_memPend (s : State) (x : Sample) : (s.openCycle x).memPend = s.memPend := rfl
@[simp] theorem State.openCycle_memIdx (s : State) (x : Sample) : (s.openCycle x).memIdx = s.memIdx := rfl
@[simp] theorem State.openCycle_srcBase (s : State) (x : Sample) : (s.openCycle x).srcBase = s.srcBase := rfl
@[simp] theorem State.openCycle_srcLen (s : State) (x : Sample) : (s.openCycle x).srcLen = s.srcLen := rfl
@[simp] theorem State.openCycle_timeoutMs (s : State) (x : Sample) : (s.openCycle x).timeoutMs = s.timeoutMs := rfl
@[simp] theorem State.openCycle_pktBuf (s : State) (x : Sample) : (s.openCycle x).pktBuf = s.pktBuf := rfl
@[simp] theorem State.openCycle_params (s : State) (x : Sample) : (s.openCycle x).params = s.params := rfl
@[simp] theorem State.openCycle_inputs (s : State) (x : Sample) : (s.openCycle x).inputs = s.inputs.tail := rfl
@[simp] theorem State.openCycle_cycle (s : State) (x : Sample) : (s.openCycle x).cycle = s.cycle + 1 := rfl
@[simp] theorem State.openCycle_out (s : State) (x : Sample) : (s.openCycle x).out = s.portOutputs x := rfl

/-! ## offer -/

@[simp] theorem State.offer_state (s : State) (x : Sample) : (s.offer x).state = s.state := rfl
@[simp] theorem State.offer_seq (s : State) (x : Sample) : (s.offer x).seq = s.seq := rfl
@[simp] theorem State.offer_offset (s : State) (x : Sample) : (s.offer x).offset = s.offset := rfl
@[simp] theorem State.offer_frameLen (s : State) (x : Sample) : (s.offer x).frameLen = s.frameLen := rfl
@[simp] theorem State.offer_isLast (s : State) (x : Sample) : (s.offer x).isLast = s.isLast := rfl
@[simp] theorem State.offer_lastAttempts (s : State) (x : Sample) : (s.offer x).lastAttempts = s.lastAttempts := rfl
@[simp] theorem State.offer_retx (s : State) (x : Sample) : (s.offer x).retx = s.retx := rfl
@[simp] theorem State.offer_timer (s : State) (x : Sample) : (s.offer x).timer = s.timer := rfl
@[simp] theorem State.offer_elapsed (s : State) (x : Sample) : (s.offer x).elapsed = s.elapsed := rfl
@[simp] theorem State.offer_bytes (s : State) (x : Sample) : (s.offer x).bytes = s.bytes := rfl
@[simp] theorem State.offer_abandoned (s : State) (x : Sample) : (s.offer x).abandoned = s.abandoned := rfl
@[simp] theorem State.offer_errCode (s : State) (x : Sample) : (s.offer x).errCode = s.errCode := rfl
@[simp] theorem State.offer_errState (s : State) (x : Sample) : (s.offer x).errState = s.errState := rfl
@[simp] theorem State.offer_irqPend (s : State) (x : Sample) : (s.offer x).irqPend = s.irqPend := rfl
@[simp] theorem State.offer_irqEn (s : State) (x : Sample) : (s.offer x).irqEn = s.irqEn := rfl
@[simp] theorem State.offer_pktReady (s : State) (x : Sample) : (s.offer x).pktReady = s.pktReady := rfl
@[simp] theorem State.offer_memPend (s : State) (x : Sample) : (s.offer x).memPend = s.memPend := rfl
@[simp] theorem State.offer_memIdx (s : State) (x : Sample) : (s.offer x).memIdx = s.memIdx := rfl
@[simp] theorem State.offer_srcBase (s : State) (x : Sample) : (s.offer x).srcBase = s.srcBase := rfl
@[simp] theorem State.offer_srcLen (s : State) (x : Sample) : (s.offer x).srcLen = s.srcLen := rfl
@[simp] theorem State.offer_timeoutMs (s : State) (x : Sample) : (s.offer x).timeoutMs = s.timeoutMs := rfl
@[simp] theorem State.offer_pktBuf (s : State) (x : Sample) : (s.offer x).pktBuf = s.pktBuf := rfl
@[simp] theorem State.offer_params (s : State) (x : Sample) : (s.offer x).params = s.params := rfl
@[simp] theorem State.offer_inputs (s : State) (x : Sample) : (s.offer x).inputs = x :: s.inputs := rfl
@[simp] theorem State.offer_cycle (s : State) (x : Sample) : (s.offer x).cycle = s.cycle := rfl
@[simp] theorem State.offer_out (s : State) (x : Sample) : (s.offer x).out = s.out := rfl

end Sys2Proof.Machine
end

