-- ==== Sys2Proof/Laws/Ops.lean ====
section
/-! SUPPORT. One lemma for each shared operation, saying once everything it can do: the saturating counter, the packet
buffer, the header buffer, the configuration check, the negative outcome, and where a meaning can stop. -/

namespace Sys2Proof.Machine

/-! ## Outcomes -/

theorem andThen_eq_next {o : Host.Outcome State Fault Refusal} {f : State → Host.Outcome State Fault Refusal} {t : State} :
    andThen o f = .next t ↔ ∃ s, o = .next s ∧ f s = .next t := by
  cases o <;> simp [andThen]

/-! ## Arithmetic (rule R12) -/

theorem sat_toNat (n v : Nat) : (sat n v).toNat = min v (2 ^ n - 1) := by
  have := Nat.two_pow_pos n
  rw [sat, BitVec.toNat_ofNat, Nat.mod_eq_of_lt (by omega)]

/-- Below its largest value a saturating counter counts by one. -/
theorem sat_succ {n : Nat} (v : BitVec n) (h : v.toNat + 1 < 2 ^ n) : (sat n (v.toNat + 1)).toNat = v.toNat + 1 := by
  rw [sat_toNat, Nat.min_eq_left (by omega)]

/-- A saturating counter never goes down. -/
theorem le_sat_succ {n : Nat} (v : BitVec n) : v.toNat ≤ (sat n (v.toNat + 1)).toNat := by
  have := v.isLt
  rw [sat_toNat]
  omega

/-- SEQ's successor under the legal widths (rules R26 and R202). -/
theorem nextSeq_toNat (p : Params) (seq : BitVec 16) (h : p.Legal) :
    (nextSeq p seq).toNat = (seq.toNat + 1) % 2 ^ p.seqW := by
  have : 2 ^ p.seqW ≤ 2 ^ 16 := Nat.pow_le_pow_right (by omega) h.2.2.2.1.2
  have := Nat.mod_lt (seq.toNat + 1) (Nat.two_pow_pos p.seqW)
  rw [nextSeq, BitVec.toNat_ofNat, Nat.mod_eq_of_lt (by omega)]

/-! ## The packet buffer -/

theorem packet_length (s : State) : s.packet.length = s.params.packetSize := by simp [State.packet]

theorem packet_getElem (s : State) (i : Nat) (h : i < s.params.packetSize) : s.packet[i]? = some (s.pktBuf.read i) := by
  simp [State.packet, h]

theorem pktWrite_eq_next {s t : State} {i : Nat} {b : Byte} :
    s.pktWrite i b = .next t ↔ i < s.params.packetSize ∧ t = { s with pktBuf := s.pktBuf.write i b } := by
  unfold State.pktWrite
  split <;> simp_all [eq_comm]

/-- The header buffer as three writes. -/
theorem headerBuffer_eq (seq : BitVec 16) (last : Bool) :
    headerBuffer seq last =
      ((Memory.write [] 0 (seq.extractLsb' 8 8)).write 1 (seq.extractLsb' 0 8)).write 2 (if last then 0x01 else 0x00) := rfl

theorem headerBuffer_wf (seq : BitVec 16) (last : Bool) : (headerBuffer seq last).wf := by
  rw [headerBuffer_eq]
  exact Memory.write_wf _ _ _ (Memory.write_wf _ _ _ (Memory.write_wf _ _ _ ⟨List.Pairwise.nil, by simp⟩))

theorem headerBuffer_within (seq : BitVec 16) (last : Bool) (n : Nat) (h : 3 ≤ n) : (headerBuffer seq last).within n := by
  rw [headerBuffer_eq]
  refine Memory.write_within _ _ _ _ (Memory.write_within _ _ _ _ (Memory.write_within _ _ _ _ ?_ ?_) ?_) ?_ <;>
    first | omega | simp

/-- A frame that has just been set up: the header's three bytes, and 0x00 in every other (rules R164 and R165). -/
theorem headerBuffer_read (seq : BitVec 16) (last : Bool) (i : Nat) :
    (headerBuffer seq last).read i = (headerBytes seq last)[i]?.getD 0 := by
  have w0 : Memory.wf (Memory.write [] 0 (seq.extractLsb' 8 8)) := Memory.write_wf _ _ _ ⟨List.Pairwise.nil, by simp⟩
  have w1 := Memory.write_wf _ 1 (seq.extractLsb' 0 8) w0
  rw [headerBuffer_eq]
  match i with
  | 0 =>
    rw [Memory.read_write_other _ _ _ _ w1 (by omega), Memory.read_write_other _ _ _ _ w0 (by omega),
      Memory.read_write_same _ _ _ ⟨List.Pairwise.nil, by simp⟩]
    rfl
  | 1 =>
    rw [Memory.read_write_other _ _ _ _ w1 (by omega), Memory.read_write_same _ _ _ w0]
    rfl
  | 2 =>
    rw [Memory.read_write_same _ _ _ w1]
    rfl
  | i + 3 =>
    rw [Memory.read_write_other _ _ _ _ w1 (by omega), Memory.read_write_other _ _ _ _ w0 (by omega),
      Memory.read_write_other _ _ _ _ ⟨List.Pairwise.nil, by simp⟩ (by omega)]
    simp [headerBytes, Memory.read, Memory.unlisted]

/-! ## The configuration check (rule R275) -/

/-- The four answers of check(). -/
theorem check_cases (s : State) :
    (s.check = 1 ∧ sint32 s.timeoutMs ≤ 0) ∨
    (s.check = 2 ∧ 0 < sint32 s.timeoutMs ∧ s.params.maxLen < s.srcLen.toNat) ∨
    (s.check = 3 ∧ 0 < sint32 s.timeoutMs ∧ s.srcLen.toNat ≤ s.params.maxLen ∧
      2 ^ 32 < s.srcBase.toNat + s.srcLen.toNat) ∨
    (s.check = 0 ∧ 0 < sint32 s.timeoutMs ∧ s.srcLen.toNat ≤ s.params.maxLen ∧
      s.srcBase.toNat + s.srcLen.toNat ≤ 2 ^ 32) := by
  unfold State.check
  split_ifs with h1 h2 h3
  · exact .inl ⟨rfl, h1⟩
  · exact .inr (.inl ⟨rfl, by omega, h2⟩)
  · exact .inr (.inr (.inl ⟨rfl, by omega, by omega, h3⟩))
  · exact .inr (.inr (.inr ⟨rfl, by omega, by omega, by omega⟩))

/-- 1 ≤ sint32(v) says that bit 31 is 0 and v is not 0 (rule R46). -/
theorem sint32_pos (v : BitVec 32) : 0 < sint32 v ↔ 1 ≤ v.toNat ∧ v.toNat < 2 ^ 31 := by
  have := v.isLt
  unfold sint32
  rw [BitVec.toInt_eq_toNat_cond]
  split <;> omega

/-- The timer's load is the timeout itself wherever START accepts it (rule R241). -/
theorem timerLoad_toNat (v : BitVec 32) (h : v.toNat < 2 ^ 31) : (timerLoad v).toNat = v.toNat := by
  simp only [timerLoad, BitVec.extractLsb'_toNat, Nat.shiftRight_zero]
  omega

/-! ## The negative outcome (rule R200) -/

/-- The three ways a negative outcome ends. -/
theorem negative_cases (s : State) :
    (s.isLast = false ∧ s.negative = s.toRetry) ∨
    (s.isLast = true ∧ (sat 16 (s.lastAttempts.toNat + 1)).toNat ≤ s.params.lastRetryLimit ∧
      s.negative = { s with lastAttempts := sat 16 (s.lastAttempts.toNat + 1) }.toRetry) ∨
    (s.isLast = true ∧ s.params.lastRetryLimit < (sat 16 (s.lastAttempts.toNat + 1)).toNat ∧
      s.negative = { s with lastAttempts := sat 16 (s.lastAttempts.toNat + 1), state := .abandoned }) := by
  unfold State.negative
  by_cases hl : s.isLast
  · by_cases hb : s.params.lastRetryLimit < (sat 16 (s.lastAttempts.toNat + 1)).toNat
    · exact .inr (.inr ⟨hl, hb, by simp [hl, hb]⟩)
    · exact .inr (.inl ⟨hl, by omega, by simp [hl, hb]⟩)
  · exact .inl ⟨by simpa using hl, by simp [hl]⟩

/-- A negative outcome writes LAST_ATTEMPTS, RETX and STATE, and nothing else. -/
theorem negative_frame (s : State) :
    s.negative = { s with lastAttempts := s.negative.lastAttempts, retx := s.negative.retx, state := s.negative.state } := by
  rcases negative_cases s with ⟨_, h⟩ | ⟨_, _, h⟩ | ⟨_, _, h⟩ <;> rw [h] <;> rfl

/-- A negative outcome reads neither TIMER nor the outputs (rule R200: it does not depend on its cause). -/
theorem negative_of_timer_out (s : State) (v : BitVec 31) (o : Outputs) :
    { s with timer := v, out := o }.negative = { s.negative with timer := v, out := o } := by
  by_cases hl : s.isLast
  · by_cases hb : s.params.lastRetryLimit < (sat 16 (s.lastAttempts.toNat + 1)).toNat <;>
      simp [State.negative, hl, hb, State.toRetry]
  · simp [State.negative, hl, State.toRetry]

/-! ## Where a meaning can stop -/

/-- MEM_BYTE in its window: the byte is written and the index moves on, or the buffer has no such byte. -/
theorem execMemByte_in_window (data : Byte) (s : State) (h : s.memReq = true) :
    execMemByte data s =
      if s.params.headerSize + s.memIdx.toNat < s.params.packetSize then
        .next { s with pktBuf := s.pktBuf.write (s.params.headerSize + s.memIdx.toNat) data }.advanceIndex
      else .fault (.pktBufIndex (s.params.headerSize + s.memIdx.toNat)) := by
  unfold execMemByte State.pktWrite
  rw [if_pos h]
  split <;> rfl

/-- START's three ways: ignored while BUSY, rejected by its check, or the setup of frame 0 (rules R274 and R277). -/
theorem execStart_eq (w : BitVec 32) (s : State) :
    execStart w s = .next (
      if s.busy then { s with irqEn := w.getLsbD 1 }
      else if s.check = 0 then { s with irqEn := w.getLsbD 1 }.startInit.frameSetup
      else ({ s with irqEn := w.getLsbD 1 }.startInit.fatal s.check)) := by
  unfold execStart
  have : ({ s with irqEn := w.getLsbD 1 }.startInit).check = s.check := rfl
  simp only [this]
  split_ifs <;> rfl

end Sys2Proof.Machine
end

