-- ==== Sys2Proof/Laws/Cycle.lean ====
section
/-! SUPPORT. What one cycle can do, said once: the guards on the state's own fields, the host lane and the state-machine
lane, and the shape of a step while BUSY, while not BUSY, and in a reset cycle. -/

namespace Sys2Proof.Machine

@[simp] theorem openCycle_busy (s : State) (x : Sample) : (s.openCycle x).busy = s.busy := rfl
@[simp] theorem openCycle_memReq (s : State) (x : Sample) : (s.openCycle x).memReq = s.memReq := rfl
@[simp] theorem openCycle_txValid (s : State) (x : Sample) : (s.openCycle x).txValid = s.txValid := rfl
@[simp] theorem openCycle_rxReady (s : State) (x : Sample) : (s.openCycle x).rxReady = s.rxReady := rfl
@[simp] theorem openCycle_packet (s : State) (x : Sample) : (s.openCycle x).packet = s.packet := rfl
@[simp] theorem openCycle_check (s : State) (x : Sample) : (s.openCycle x).check = s.check := rfl
@[simp] theorem openCycle_readValue (s : State) (x : Sample) (off : BitVec 4) :
    (s.openCycle x).readValue off = s.readValue off := rfl

/-- The pending sample is the one taken. -/
@[simp] theorem sample_offer (s : State) (x : Sample) : (s.offer x).sample = x := rfl

/-- The case expression of rule R191 on the state's own fields. -/
theorem arqOp_eq (x : Sample) (s : State) :
    arqOp x s =
      match s.state with
      | .idle | .done | .error => none
      | .awaitingSend =>
        if s.memPend then
          if pvMemErr x.pv then some .memErr else if pvMemRspValid x.pv then some (.memByte x.memData) else none
        else if s.pktReady then
          if pvTxErr x.pv then some .txErr else if pvTxDone x.pv then some .txDoneFirst else none
        else none
      | .awaitingAck =>
        if pvRxErr x.pv then some .rxErr
        else if pvRxValid x.pv then
          if x.rx.acknowledges s.params s.seq then some (.rxAckMatch x.rx) else some (.rxMismatch x.rx)
        else if pvMsTick x.pv then if 1 < s.timer.toNat then some .msTick else some .tickExpire
        else none
      | .confirmed => some .confirm
      | .abandoned => some .abandon
      | .retry => if pvTxErr x.pv then some .txErr else if pvTxDone x.pv then some .txDoneRetry else none := by
  unfold arqOp decodeArq State.guardView
  cases h : s.state <;> simp [decodeState]

/-- TICK_ELAPSED on the state's own fields (rule R246). -/
theorem elapsedOp_eq (x : Sample) (s : State) :
    elapsedOp x s = if !pvRst x.pv && pvMsTick x.pv && s.busy then some .tickElapsed else none := by
  simp [elapsedOp, decodeBeside, State.guardView, State.busy]

/-- No operation of the state machine is taken while not BUSY (rule R204). -/
theorem arqOp_not_busy (x : Sample) (s : State) (h : s.busy = false) : arqOp x s = none := by
  rw [arqOp_eq]
  cases hs : s.state <;> simp_all [State.busy, ArqState.busy]

theorem elapsedOp_not_busy (x : Sample) (s : State) (h : s.busy = false) : elapsedOp x s = none := by
  simp [elapsedOp_eq, h]

/-- The elapsed-time lane changes ELAPSED and nothing else, and does not stop. -/
theorem elapsed_lane (x : Sample) (s s1 : State) (hb : s1.busy = s.busy) :
    runOp (elapsedOp x s) s1 = .next (
      if !pvRst x.pv && pvMsTick x.pv && s.busy then { s1 with elapsed := sat 32 (s1.elapsed.toNat + 1) } else s1) := by
  rw [elapsedOp_eq]
  split
  · rename_i h
    simp only [Bool.and_eq_true] at h
    simp [runOp, exec, execTickElapsed, hb, h.2]
  · rfl

/-- An access word is one of the eight rows of format F-CSR (rule R121). -/
theorem decodeCsr_host (a : BitVec 37) :
    (∃ off w, decodeCsr a = .csrRd off w) ∨ (∃ w, decodeCsr a = .csrWrCtrl w) ∨ (∃ w, decodeCsr a = .start w) ∨
    (∃ w, decodeCsr a = .csrWrStatus w) ∨ (∃ w, decodeCsr a = .csrWrSrcBase w) ∨ (∃ w, decodeCsr a = .csrWrSrcLen w) ∨
    (∃ w, decodeCsr a = .csrWrTimeout w) ∨ (∃ off w, decodeCsr a = .csrWrRo off w) := by
  unfold decodeCsr
  split
  · split
    · split <;> simp
    all_goals simp
  · simp

/-- An access word is a START exactly where the table's pattern says so (rules R121 and R274). -/
theorem decodeCsr_start (a : BitVec 37) :
    (∃ w, decodeCsr a = .start w) ↔ (csrWe a && csrOff a == 0x0 && (csrWdata a).getLsbD 0) = true := by
  have off0 : csrOff a = 0 ↔ (csrOff a).toNat = 0 := by rw [BitVec.toNat_eq]; rfl
  unfold decodeCsr
  cases csrWe a
  · simp
  · simp only [if_true, Bool.true_and, Bool.and_eq_true, beq_iff_eq, off0]
    split
    · rename_i h
      cases hb : (csrWdata a).getLsbD 0 <;> simp [h]
    case h_6 n h0 _ _ _ _ => simpa using fun h => (h0 h).elim
    all_goals (rename_i h; simp [h])

/-- A STATUS write is decoded exactly where the table's pattern says so (rules R121 and R278). -/
theorem decodeCsr_status (a : BitVec 37) (w : BitVec 32) :
    decodeCsr a = .csrWrStatus w ↔ (csrWe a = true ∧ csrOff a = 0x1) ∧ w = csrWdata a := by
  have off1 : csrOff a = 1 ↔ (csrOff a).toNat = 1 := by rw [BitVec.toNat_eq]; rfl
  unfold decodeCsr
  cases csrWe a
  · simp
  · simp only [if_true, true_and, off1]
    split
    · rename_i h
      cases hb : (csrWdata a).getLsbD 0 <;> simp [h]
    case h_6 n _ h1 _ _ _ => simpa using fun h => (h1 h).elim
    all_goals (rename_i h; simp [h, eq_comm])

/-- A cycle whose access is decoded as no STATUS write clears nothing. -/
theorem clearsIrq_of_ne {x : Sample} (h : ∀ w, decodeCsr x.csr ≠ .csrWrStatus w) : clearsIrq x = false := by
  have := h (csrWdata x.csr)
  rw [Ne, decodeCsr_status] at this
  cases hw : csrWe x.csr <;> simp_all [clearsIrq]

/-- A cycle commands START exactly where its access is decoded as one (rule R274). -/
theorem commandsStart_iff (x : Sample) : commandsStart x = true ↔ x.csrEn = true ∧ ∃ w, decodeCsr x.csr = .start w := by
  rw [decodeCsr_start]
  simp [commandsStart, and_assoc]

/-- The host lane while BUSY: the read data, IRQ_EN, and a cleared IRQ_PEND, and nothing else (rules R272 and R277). -/
theorem host_lane_busy (x : Sample) (s t : State) (hb : s.busy = true) (h : runOp (hostOp x) s = .next t) :
    t = { s with irqEn := t.irqEn, irqPend := s.irqPend && !clearsIrq x,
                 out := { s.out with csrRdata := t.out.csrRdata } } := by
  unfold runOp hostOp at h
  by_cases he : x.csrEn
  · simp only [he, if_true] at h
    cases hd : decodeCsr x.csr with
    | csrRd off w | csrWrCtrl w | start w | csrWrSrcBase w | csrWrSrcLen w | csrWrTimeout w | csrWrRo off w =>
      have hc : clearsIrq x = false := clearsIrq_of_ne (by rw [hd]; simp)
      rw [hd] at h
      simp only [exec, execCsrRd, execCsrWrCtrl, execStart, execCsrWrSrcBase, execCsrWrSrcLen, execCsrWrTimeout,
        execCsrWrRo, hb, if_true, Host.Outcome.next.injEq] at h
      subst h
      simp [hc]
    | csrWrStatus w =>
      obtain ⟨⟨hw, ho⟩, rfl⟩ := (decodeCsr_status _ _).mp hd
      rw [hd] at h
      simp only [exec, execCsrWrStatus, Host.Outcome.next.injEq] at h
      subst h
      simp [clearsIrq, he, hw, ho]
    | _ =>
      rcases decodeCsr_host x.csr with ⟨_, _, h'⟩ | ⟨_, h'⟩ | ⟨_, h'⟩ | ⟨_, h'⟩ | ⟨_, h'⟩ | ⟨_, h'⟩ | ⟨_, h'⟩ | ⟨_, _, h'⟩ <;>
        rw [hd] at h' <;> cases h'
  · simp only [he, Bool.false_eq_true, if_false, Host.Outcome.next.injEq] at h
    subst h
    simp [clearsIrq, he]

/-- The host lane while not BUSY: a register access that is no START, or a START with one of its two ends (rules R271 to
R282). -/
theorem host_lane_not_busy (x : Sample) (s t : State) (hb : s.busy = false) (h : runOp (hostOp x) s = .next t) :
    (commandsStart x = false ∧
      t = { s with irqEn := t.irqEn, irqPend := s.irqPend && !clearsIrq x, srcBase := t.srcBase, srcLen := t.srcLen,
                   timeoutMs := t.timeoutMs, out := { s.out with csrRdata := t.out.csrRdata } }) ∨
    (commandsStart x = true ∧ ∃ w, decodeCsr x.csr = .start w ∧
      ((s.check ≠ 0 ∧ t = ({ s with irqEn := w.getLsbD 1 }.startInit.fatal s.check)) ∨
        (s.check = 0 ∧ t = { s with irqEn := w.getLsbD 1 }.startInit.frameSetup))) := by
  unfold runOp hostOp at h
  by_cases he : x.csrEn
  · have noStart : (∀ w, decodeCsr x.csr ≠ .start w) → commandsStart x = false := fun hn =>
      Bool.eq_false_iff.mpr fun hc => let ⟨w, hw⟩ := ((commandsStart_iff x).mp hc).2; hn w hw
    simp only [he, if_true] at h
    cases hd : decodeCsr x.csr with
    | start w =>
      rw [hd] at h
      refine .inr ⟨(commandsStart_iff x).mpr ⟨he, w, hd⟩, w, rfl, ?_⟩
      simp only [exec, execStart_eq, hb, Bool.false_eq_true, if_false, Host.Outcome.next.injEq] at h
      by_cases hc : s.check = 0
      · exact .inr ⟨hc, by rw [← h, if_pos hc]⟩
      · exact .inl ⟨hc, by rw [← h, if_neg hc]⟩
    | csrRd off w | csrWrCtrl w | csrWrRo off w | csrWrSrcBase w | csrWrSrcLen w | csrWrTimeout w =>
      have hc : clearsIrq x = false := clearsIrq_of_ne (by rw [hd]; simp)
      refine .inl ⟨noStart (by rw [hd]; simp), ?_⟩
      rw [hd] at h
      simp only [exec, execCsrRd, execCsrWrCtrl, execCsrWrRo, execCsrWrSrcBase, execCsrWrSrcLen, execCsrWrTimeout, hb,
        Bool.false_eq_true, if_false, Host.Outcome.next.injEq] at h
      subst h
      simp [hc]
    | csrWrStatus w =>
      refine .inl ⟨noStart (by rw [hd]; simp), ?_⟩
      obtain ⟨⟨hw, ho⟩, rfl⟩ := (decodeCsr_status _ _).mp hd
      rw [hd] at h
      simp only [exec, execCsrWrStatus, Host.Outcome.next.injEq] at h
      subst h
      simp [clearsIrq, he, hw, ho]
    | _ =>
      rcases decodeCsr_host x.csr with ⟨_, _, h'⟩ | ⟨_, h'⟩ | ⟨_, h'⟩ | ⟨_, h'⟩ | ⟨_, h'⟩ | ⟨_, h'⟩ | ⟨_, h'⟩ | ⟨_, _, h'⟩ <;>
        rw [hd] at h' <;> cases h'
  · simp only [he, Bool.false_eq_true, if_false, Host.Outcome.next.injEq] at h
    subst h
    exact .inl (by simp [clearsIrq, commandsStart, he])

/-- The host lane does not stop. -/
theorem host_lane_next (x : Sample) (s : State) : ∃ t, runOp (hostOp x) s = .next t := by
  unfold runOp hostOp
  by_cases he : x.csrEn
  · simp only [he, if_true]
    unfold decodeCsr
    split
    · split
      · split <;> simp only [exec, execStart_eq, execCsrWrCtrl] <;> exact ⟨_, rfl⟩
      all_goals exact ⟨_, rfl⟩
    · exact ⟨_, rfl⟩
  · simp [he]

/-- A reset cycle (rule R341). -/
theorem step_reset (s : State) (h : pvRst s.sample.pv = true) : step s = exec .reset (s.openCycle s.sample) := by
  simp [step, runCycle, h]

/-- A cycle that starts not BUSY: the host access and nothing else (rule R204). -/
theorem step_not_busy (s : State) (hr : pvRst s.sample.pv = false) (hb : s.busy = false) :
    step s = runOp (hostOp s.sample) (s.openCycle s.sample) := by
  obtain ⟨t, ht⟩ := host_lane_next s.sample (s.openCycle s.sample)
  simp only [step, runCycle, hr, arqOp_not_busy _ _ hb, elapsedOp_not_busy _ _ hb, ht, andThen]
  simp [runOp]

/-- A cycle that starts BUSY: the host access, the tick's count, and the operation of the state machine in the state these
two leave, in which every field that a guard reads is as at the start (rule R191). -/
theorem step_busy (s : State) (hr : pvRst s.sample.pv = false) (hb : s.busy = true) :
    ∃ s2 : State,
      s2 = { s.openCycle s.sample with
              irqEn := s2.irqEn, irqPend := s.irqPend && !clearsIrq s.sample,
              elapsed := if pvMsTick s.sample.pv then sat 32 (s.elapsed.toNat + 1) else s.elapsed,
              out := { s.portOutputs s.sample with csrRdata := s2.out.csrRdata } } ∧
      step s = runOp (arqOp s.sample s) s2 := by
  obtain ⟨s1, h1⟩ := host_lane_next s.sample (s.openCycle s.sample)
  have e1 := host_lane_busy s.sample (s.openCycle s.sample) s1 hb h1
  have hb1 : s1.busy = s.busy := by rw [e1]; rfl
  have h2 := elapsed_lane s.sample s s1 hb1
  by_cases hk : pvMsTick s.sample.pv
  · refine ⟨{ s1 with elapsed := sat 32 (s1.elapsed.toNat + 1) }, ?_, ?_⟩
    · rw [e1]
      simp [hk]
    · simp only [hr, hk, hb, Bool.not_false, Bool.and_self, if_true] at h2
      simp [step, runCycle, hr, h1, andThen, h2]
  · refine ⟨s1, ?_, ?_⟩
    · conv_lhs => rw [e1]
      simp [hk]
    · simp only [hk, Bool.and_false, Bool.false_and, Bool.false_eq_true, if_false] at h2
      simp [step, runCycle, hr, h1, andThen, h2]

/-- What the state machine's lane can do in a cycle that starts BUSY in `s`, from the state `u` that the other two lanes
leave: one constructor per transition, with its condition on `s` and the sample (rules R191 and R210). -/
inductive Move (s u : State) (x : Sample) : State → Prop where
  | hold (h : arqOp x s = none) : Move s u x u
  | memFail (hs : s.state = .awaitingSend) (hm : s.memPend = true) (h : pvMemErr x.pv = true) : Move s u x (u.fatal 6)
  | byte (hs : s.state = .awaitingSend) (hm : s.memPend = true) (h : pvMemErr x.pv = false)
      (hv : pvMemRspValid x.pv = true) (hi : s.params.headerSize + s.memIdx.toNat < s.params.packetSize) :
      Move s u x { u with pktBuf := u.pktBuf.write (u.params.headerSize + u.memIdx.toNat) x.memData }.advanceIndex
  | txFail (hs : s.state = .awaitingSend ∧ s.memPend = false ∧ s.pktReady = true ∨ s.state = .retry)
      (h : pvTxErr x.pv = true) : Move s u x (u.fatal 4)
  | sent (hs : s.state = .awaitingSend) (hm : s.memPend = false) (hp : s.pktReady = true) (he : pvTxErr x.pv = false)
      (h : pvTxDone x.pv = true) : Move s u x (u.send.emit 1 u.seq).awaitAck
  | resent (hs : s.state = .retry) (he : pvTxErr x.pv = false) (h : pvTxDone x.pv = true) :
      Move s u x (u.send.emit 3 u.seq).awaitAck
  | rxFail (hs : s.state = .awaitingAck) (h : pvRxErr x.pv = true) : Move s u x (u.fatal 5)
  | accepted (hs : s.state = .awaitingAck) (he : pvRxErr x.pv = false) (hv : pvRxValid x.pv = true)
      (h : x.rx.acknowledges s.params s.seq = true) : Move s u x u.accept
  | mismatch (hs : s.state = .awaitingAck) (he : pvRxErr x.pv = false) (hv : pvRxValid x.pv = true)
      (h : x.rx.acknowledges s.params s.seq = false) : Move s u x u.negative
  | tick (hs : s.state = .awaitingAck) (he : pvRxErr x.pv = false) (hv : pvRxValid x.pv = false)
      (hk : pvMsTick x.pv = true) (ht : 1 < s.timer.toNat) : Move s u x { u with timer := u.timer - 1 }
  | expired (hs : s.state = .awaitingAck) (he : pvRxErr x.pv = false) (hv : pvRxValid x.pv = false)
      (hk : pvMsTick x.pv = true) (ht : s.timer.toNat ≤ 1) : Move s u x ({ u with timer := 0 }.emit 2 u.seq).negative
  | nextFrame (hs : s.state = .confirmed) (hl : s.isLast = false) :
      Move s u x { u with seq := nextSeq u.params u.seq,
                          offset := BitVec.ofNat 32 (u.offset.toNat + u.params.payloadSize) }.frameSetup
  | finished (hs : s.state = .confirmed) (hl : s.isLast = true) :
      Move s u x { u with seq := nextSeq u.params u.seq, offset := BitVec.ofNat 32 (u.offset.toNat + u.frameLen.toNat) }.complete
  | gaveUp (hs : s.state = .abandoned) : Move s u x { u.emit 5 u.seq with abandoned := true }.complete

/-- The state machine's lane is one of the moves. -/
theorem arq_lane_move (x : Sample) (s u t : State) (hst : u.state = s.state) (hsq : u.seq = s.seq)
    (hil : u.isLast = s.isLast) (hti : u.timer = s.timer) (hmp : u.memPend = s.memPend) (hpr : u.pktReady = s.pktReady)
    (hmi : u.memIdx = s.memIdx) (hpa : u.params = s.params) (e : runOp (arqOp x s) u = .next t) : Move s u x t := by
  by_cases hn : arqOp x s = none
  · rw [hn] at e
    cases e
    exact .hold hn
  rw [arqOp_eq] at hn e
  cases hs : s.state <;> simp only [hs] at hn e <;> rw [hs] at hst
  case idle | done | error => exact absurd trivial hn
  case awaitingSend =>
    cases hm : s.memPend <;> simp only [hm, if_true, Bool.false_eq_true, if_false] at hn e <;> rw [hm] at hmp
    · cases hp : s.pktReady <;> simp only [hp, if_true, Bool.false_eq_true, if_false] at hn e <;> rw [hp] at hpr
      · exact absurd trivial hn
      · cases h1 : pvTxErr x.pv <;> simp only [h1, if_true, Bool.false_eq_true, if_false] at hn e
        · cases h2 : pvTxDone x.pv <;> simp only [h2, if_true, Bool.false_eq_true, if_false] at hn e
          · exact absurd trivial hn
          · simp only [runOp, exec, execTxDoneFirst, hst, hpr, beq_self_eq_true, Bool.and_self, if_true,
              Host.Outcome.next.injEq] at e
            exact e ▸ .sent hs hm hp h1 h2
        · simp only [runOp, exec, execTxErr, State.txValid, hst, hpr, beq_self_eq_true, Bool.and_self, Bool.true_or,
            if_true, Host.Outcome.next.injEq] at e
          exact e ▸ .txFail (.inl ⟨hs, hm, hp⟩) h1
    · have hmr : u.memReq = true := by simp [State.memReq, hst, hmp]
      cases h1 : pvMemErr x.pv <;> simp only [h1, if_true, Bool.false_eq_true, if_false] at hn e
      · cases h2 : pvMemRspValid x.pv <;> simp only [h2, if_true, Bool.false_eq_true, if_false] at hn e
        · exact absurd trivial hn
        · simp only [runOp, exec, execMemByte_in_window _ _ hmr] at e
          split at e
          · rename_i hi
            rw [hmi, hpa] at hi
            cases e
            exact .byte hs hm h1 h2 hi
          · cases e
      · simp only [runOp, exec, execMemErr, hmr, if_true, Host.Outcome.next.injEq] at e
        exact e ▸ .memFail hs hm h1
  case awaitingAck =>
    have hrr : u.rxReady = true := by simp [State.rxReady, hst]
    cases h1 : pvRxErr x.pv <;> simp only [h1, if_true, Bool.false_eq_true, if_false] at hn e
    · cases h2 : pvRxValid x.pv <;> simp only [h2, if_true, Bool.false_eq_true, if_false] at hn e
      · cases h3 : pvMsTick x.pv <;> simp only [h3, if_true, Bool.false_eq_true, if_false] at hn e
        · exact absurd trivial hn
        · by_cases h4 : 1 < s.timer.toNat
          · have hc : (u.state == .awaitingAck && decide (1 < u.timer.toNat)) = true := by simp [hst, hti, h4]
            simp only [h4, if_true, runOp, exec, execMsTick, if_pos hc, Host.Outcome.next.injEq] at e
            exact e ▸ .tick hs h1 h2 h3 h4
          · have h5 : s.timer.toNat ≤ 1 := by omega
            have hc : (u.state == .awaitingAck && decide (u.timer.toNat ≤ 1)) = true := by simp [hst, hti, h5]
            simp only [h4, if_false, runOp, exec, execTickExpire, if_pos hc, Host.Outcome.next.injEq] at e
            exact e ▸ .expired hs h1 h2 h3 h5
      · cases h3 : x.rx.acknowledges s.params s.seq <;>
          simp only [h3, if_true, Bool.false_eq_true, if_false, runOp, exec, execRxAckMatch, execRxMismatch, hrr, hsq, hpa,
            Bool.not_false, Bool.and_self, Host.Outcome.next.injEq] at e
        · exact e ▸ .mismatch hs h1 h2 h3
        · exact e ▸ .accepted hs h1 h2 h3
    · simp only [runOp, exec, execRxErr, hrr, if_true, Host.Outcome.next.injEq] at e
      exact e ▸ .rxFail hs h1
  case confirmed =>
    have hc : (u.state == .confirmed) = true := by simp [hst]
    simp only [runOp, exec, execConfirm, if_pos hc, Host.Outcome.next.injEq] at e
    split at e
    · exact e ▸ .finished hs (by rw [← hil]; assumption)
    · exact e ▸ .nextFrame hs (by rw [← hil]; exact Bool.eq_false_iff.mpr ‹_›)
  case retry =>
    cases h1 : pvTxErr x.pv <;> simp only [h1, if_true, Bool.false_eq_true, if_false] at hn e
    · cases h2 : pvTxDone x.pv <;> simp only [h2, if_true, Bool.false_eq_true, if_false] at hn e
      · exact absurd trivial hn
      · simp only [runOp, exec, execTxDoneRetry, hst, beq_self_eq_true, if_true, Host.Outcome.next.injEq] at e
        exact e ▸ .resent hs h1 h2
    · simp only [runOp, exec, execTxErr, State.txValid, hst, beq_self_eq_true, Bool.or_true, if_true,
        Host.Outcome.next.injEq] at e
      exact e ▸ .txFail (.inr hs) h1
  case abandoned =>
    have hc : (u.state == .abandoned) = true := by simp [hst]
    simp only [runOp, exec, execAbandon, if_pos hc, Host.Outcome.next.injEq] at e
    exact e ▸ .gaveUp hs

/-- The state that the host lane and the tick's count leave in a cycle that starts BUSY in `s` (rules R191 and R246). -/
def Lanes (s u : State) : Prop :=
  u = { s.openCycle s.sample with
          irqEn := u.irqEn, irqPend := s.irqPend && !clearsIrq s.sample,
          elapsed := if pvMsTick s.sample.pv then sat 32 (s.elapsed.toNat + 1) else s.elapsed,
          out := { s.portOutputs s.sample with csrRdata := u.out.csrRdata } }

/-! What the lanes leave as at the start of the cycle, field by field. -/

theorem Lanes.state {s u : State} (h : Lanes s u) : u.state = s.state := by rw [h]; rfl
theorem Lanes.seq {s u : State} (h : Lanes s u) : u.seq = s.seq := by rw [h]; rfl
theorem Lanes.offset {s u : State} (h : Lanes s u) : u.offset = s.offset := by rw [h]; rfl
theorem Lanes.frameLen {s u : State} (h : Lanes s u) : u.frameLen = s.frameLen := by rw [h]; rfl
theorem Lanes.isLast {s u : State} (h : Lanes s u) : u.isLast = s.isLast := by rw [h]; rfl
theorem Lanes.lastAttempts {s u : State} (h : Lanes s u) : u.lastAttempts = s.lastAttempts := by rw [h]; rfl
theorem Lanes.retx {s u : State} (h : Lanes s u) : u.retx = s.retx := by rw [h]; rfl
theorem Lanes.timer {s u : State} (h : Lanes s u) : u.timer = s.timer := by rw [h]; rfl
theorem Lanes.bytes {s u : State} (h : Lanes s u) : u.bytes = s.bytes := by rw [h]; rfl
theorem Lanes.abandoned {s u : State} (h : Lanes s u) : u.abandoned = s.abandoned := by rw [h]; rfl
theorem Lanes.errCode {s u : State} (h : Lanes s u) : u.errCode = s.errCode := by rw [h]; rfl
theorem Lanes.errState {s u : State} (h : Lanes s u) : u.errState = s.errState := by rw [h]; rfl
theorem Lanes.pktReady {s u : State} (h : Lanes s u) : u.pktReady = s.pktReady := by rw [h]; rfl
theorem Lanes.memPend {s u : State} (h : Lanes s u) : u.memPend = s.memPend := by rw [h]; rfl
theorem Lanes.memIdx {s u : State} (h : Lanes s u) : u.memIdx = s.memIdx := by rw [h]; rfl
theorem Lanes.srcBase {s u : State} (h : Lanes s u) : u.srcBase = s.srcBase := by rw [h]; rfl
theorem Lanes.srcLen {s u : State} (h : Lanes s u) : u.srcLen = s.srcLen := by rw [h]; rfl
theorem Lanes.timeoutMs {s u : State} (h : Lanes s u) : u.timeoutMs = s.timeoutMs := by rw [h]; rfl
theorem Lanes.pktBuf {s u : State} (h : Lanes s u) : u.pktBuf = s.pktBuf := by rw [h]; rfl
theorem Lanes.params {s u : State} (h : Lanes s u) : u.params = s.params := by rw [h]; rfl
theorem Lanes.evValid {s u : State} (h : Lanes s u) : u.out.evValid = false := by rw [h]; rfl
theorem Lanes.evCode {s u : State} (h : Lanes s u) : u.out.evCode = 0 := by rw [h]; rfl
theorem Lanes.evArg {s u : State} (h : Lanes s u) : u.out.evArg = 0 := by rw [h]; rfl
theorem Lanes.sent {s u : State} (h : Lanes s u) : u.out.sent = none := by rw [h]; rfl
theorem Lanes.irqPend {s u : State} (h : Lanes s u) : u.irqPend = (s.irqPend && !clearsIrq s.sample) := by rw [h]
theorem Lanes.elapsed {s u : State} (h : Lanes s u) :
    u.elapsed = if pvMsTick s.sample.pv then sat 32 (s.elapsed.toNat + 1) else s.elapsed := by rw [h]

/-- Everything that a step can do, reset cycles apart: while not BUSY one host access; while BUSY one move. -/
theorem step_cases (s t : State) (hr : pvRst s.sample.pv = false) (e : step s = .next t) :
    (s.busy = false ∧ runOp (hostOp s.sample) (s.openCycle s.sample) = .next t) ∨
    (s.busy = true ∧ ∃ u, Lanes s u ∧ Move s u s.sample t) := by
  cases hb : s.busy
  · rw [step_not_busy s hr hb] at e
    exact .inl ⟨rfl, e⟩
  · obtain ⟨u, hu, es⟩ := step_busy s hr hb
    rw [e] at es
    refine .inr ⟨rfl, u, hu, arq_lane_move _ s u t ?_ ?_ ?_ ?_ ?_ ?_ ?_ ?_ es.symm⟩ <;> (rw [hu]; rfl)

/-- A reset cycle (rules R341 and R57): everything but PKT_BUF and the model's own fields is as after reset. -/
theorem step_reset_next (s t : State) (hr : pvRst s.sample.pv = true) (e : step s = .next t) :
    t = { State.reset with pktBuf := s.pktBuf, params := s.params, inputs := s.inputs.tail, cycle := s.cycle + 1,
                           out := s.portOutputs s.sample } := by
  rw [step_reset s hr] at e
  cases e
  rfl

end Sys2Proof.Machine
end

