-- ==== Sys2Proof/Laws/PerInstr.lean ====
section
/-! SUPPORT. The per-instruction family RoundTrip: decoding the encoding of a well-formed operation, in state bits that
its guard admits, gives the operation back with every operand. -/

namespace Sys2Proof.Laws.RoundTrip

/-- Decode after encode is the identity at `i`. -/
def Statement (i : Instr) : Prop :=
  ∀ (p : Params) (g : GuardView), i.wellFormed p = true → i.guard p g = true → decode p (encode p g i) = .ok i

theorem csrRd (off : BitVec 4) (w : BitVec 32) : Statement (.csrRd off w) := by
  intro p g _ _
  simp [encode, decode, decodeCsr]

theorem csrWrCtrl (w : BitVec 32) : Statement (.csrWrCtrl w) := by
  intro p g hw _
  simp only [Instr.wellFormed, Bool.not_eq_true'] at hw
  simp only [encode, decode, decodeCsr, csrWe_csrWord, csrOff_csrWord, csrWdata_csrWord, hw]
  rfl

theorem start (w : BitVec 32) : Statement (.start w) := by
  intro p g hw _
  simp only [Instr.wellFormed] at hw
  simp only [encode, decode, decodeCsr, csrWe_csrWord, csrOff_csrWord, csrWdata_csrWord, hw]
  rfl

theorem csrWrStatus (w : BitVec 32) : Statement (.csrWrStatus w) := by
  intro p g _ _
  simp [encode, decode, decodeCsr]

theorem csrWrSrcBase (w : BitVec 32) : Statement (.csrWrSrcBase w) := by
  intro p g _ _
  simp [encode, decode, decodeCsr]

theorem csrWrSrcLen (w : BitVec 32) : Statement (.csrWrSrcLen w) := by
  intro p g _ _
  simp [encode, decode, decodeCsr]

theorem csrWrTimeout (w : BitVec 32) : Statement (.csrWrTimeout w) := by
  intro p g _ _
  simp [encode, decode, decodeCsr]

theorem csrWrRo (off : BitVec 4) (w : BitVec 32) : Statement (.csrWrRo off w) := by
  intro p g hw _
  simp only [Instr.wellFormed, decide_eq_true_eq] at hw
  simp only [encode, decode, decodeCsr, csrWe_csrWord, csrOff_csrWord, csrWdata_csrWord, if_true]
  split <;> first | omega | rfl

theorem reset : Statement .reset := fun _ _ _ _ => rfl

theorem memByte (data : Byte) : Statement (.memByte data) := by
  intro p g _ hg
  simp only [Instr.guard, Bool.and_eq_true, beq_iff_eq] at hg
  simp [encode, decode, decodeArq, orError, hg, pvRst, pvMemErr, pvMemRspValid]

theorem memErr : Statement .memErr := by
  intro p g _ hg
  simp only [Instr.guard, Bool.and_eq_true, beq_iff_eq] at hg
  simp [encode, decode, decodeArq, orError, hg, pvRst, pvMemErr]

theorem txDoneFirst : Statement .txDoneFirst := by
  intro p g _ hg
  simp only [Instr.guard, Bool.and_eq_true, beq_iff_eq, Bool.not_eq_true'] at hg
  simp [encode, decode, decodeArq, orError, hg, pvRst, pvTxErr, pvTxDone]

theorem txDoneRetry : Statement .txDoneRetry := by
  intro p g _ hg
  simp only [Instr.guard, beq_iff_eq] at hg
  simp [encode, decode, decodeArq, orError, hg, pvRst, pvTxErr, pvTxDone]

theorem txErr : Statement .txErr := by
  intro p g _ hg
  simp only [Instr.guard, Bool.or_eq_true, Bool.and_eq_true, beq_iff_eq, Bool.not_eq_true'] at hg
  rcases hg with hg | hg <;> simp [encode, decode, decodeArq, orError, hg, pvRst, pvTxErr]

theorem rxAckMatch (d : Datagram) : Statement (.rxAckMatch d) := by
  intro p g _ hg
  simp only [Instr.guard, Bool.and_eq_true, beq_iff_eq] at hg
  simp [encode, decode, decodeArq, orError, hg, pvRst, pvRxErr, pvRxValid]

theorem rxMismatch (d : Datagram) : Statement (.rxMismatch d) := by
  intro p g _ hg
  simp only [Instr.guard, Bool.and_eq_true, beq_iff_eq, Bool.not_eq_true'] at hg
  simp [encode, decode, decodeArq, orError, hg, pvRst, pvRxErr, pvRxValid]

theorem rxErr : Statement .rxErr := by
  intro p g _ hg
  simp only [Instr.guard, beq_iff_eq] at hg
  simp [encode, decode, decodeArq, orError, hg, pvRst, pvRxErr]

theorem msTick : Statement .msTick := by
  intro p g _ hg
  simp only [Instr.guard, Bool.and_eq_true, beq_iff_eq, decide_eq_true_eq] at hg
  simp [encode, decode, decodeArq, orError, hg, pvRst, pvRxErr, pvRxValid, pvMsTick]

theorem tickExpire : Statement .tickExpire := by
  intro p g _ hg
  simp only [Instr.guard, Bool.and_eq_true, beq_iff_eq, decide_eq_true_eq] at hg
  have : ¬ 1 < g.timer.toNat := by omega
  simp [encode, decode, decodeArq, orError, hg, this, pvRst, pvRxErr, pvRxValid, pvMsTick]

theorem tickElapsed : Statement .tickElapsed := by
  intro p g _ hg
  simp only [Instr.guard] at hg
  simp [encode, decode, decodeBeside, orError, hg, pvRst, pvMsTick]

theorem confirm : Statement .confirm := by
  intro p g _ hg
  simp only [Instr.guard, beq_iff_eq] at hg
  simp [encode, decode, decodeState, orError, hg]

theorem abandon : Statement .abandon := by
  intro p g _ hg
  simp only [Instr.guard, beq_iff_eq] at hg
  simp [encode, decode, decodeState, orError, hg]

theorem dataPkt (seq : BitVec 16) (last : Bool) (payload : List Byte) : Statement (.dataPkt seq last payload) := by
  intro p g hw _
  simp only [Instr.wellFormed, decide_eq_true_eq] at hw
  cases last <;> simp [encode, decode, headerBytes, decodePacket, hw]

theorem ackPkt (ackv : BitVec 16) : Statement (.ackPkt ackv) := by
  intro p g hw _
  simp only [Instr.wellFormed, decide_eq_true_eq] at hw
  have : 2 + (p.ackSize - 2) = p.ackSize := by omega
  simp [encode, decode, decodeDatagram, ackDatagram, this]

theorem evSent (seq : BitVec 16) : Statement (.evSent seq) := by
  intro p g _ _
  simp [encode, decode, decodeEvent]

theorem evTimeout (seq : BitVec 16) : Statement (.evTimeout seq) := by
  intro p g _ _
  simp [encode, decode, decodeEvent]

theorem evResend (seq : BitVec 16) : Statement (.evResend seq) := by
  intro p g _ _
  simp [encode, decode, decodeEvent]

theorem evAckAccepted (seq : BitVec 16) : Statement (.evAckAccepted seq) := by
  intro p g _ _
  simp [encode, decode, decodeEvent]

theorem evGiveUp (seq : BitVec 16) : Statement (.evGiveUp seq) := by
  intro p g _ _
  simp [encode, decode, decodeEvent]

theorem evFatal (code : BitVec 4) : Statement (.evFatal code) := by
  intro p g hw _
  simp only [Instr.wellFormed, decide_eq_true_eq] at hw
  have h7 : ¬ 7 ≤ code.toNat := by omega
  have h16 : ¬ 16 ≤ code.toNat := by omega
  have ht : (code.setWidth 16).toNat = code.toNat := by
    rw [BitVec.toNat_setWidth]; omega
  have he : (code.setWidth 16).extractLsb' 0 4 = code := by
    ext i hi
    simp [BitVec.getElem_extractLsb', BitVec.getLsbD_setWidth, hi]
    omega
  simp only [encode, decode, decodeEvent, eventWord_code, eventWord_arg, ht, he, h7, h16, if_false]
  rfl

end Sys2Proof.Laws.RoundTrip
end

