-- ==== Sys2Proof/Tests/Slice0.lean ====
section
/-! SUPPORT. The model's own tests. Expected results come from the spec: the table's patterns, spec 95's encodings,
vectors V1 to V33 and programs P1 to P8, named at each test. After them, one witness for each statement with hypotheses. -/

namespace Sys2Proof.Tests

open Sys2Proof Sys2Proof.Machine

/-! ## Well-formedness: one ill-formed term for each check -/

theorem test_wf_ctrl_is_not_start : (Instr.csrWrCtrl 0x00000001).wellFormed {} = false := by decide
theorem test_wf_start_needs_bit0 : (Instr.start 0x00000002).wellFormed {} = false := by decide
theorem test_wf_ro_offset : (Instr.csrWrRo 0x4 0).wellFormed {} = false := by decide
theorem test_wf_ack_length : (Instr.rxAckMatch ⟨3, 0x01, 0x02⟩).wellFormed {} = false := by decide
theorem test_wf_packet_length : (Instr.dataPkt 0 false [0x11]).wellFormed { payloadSize := 2 } = false := by decide
theorem test_wf_fatal_code : (Instr.evFatal 7).wellFormed {} = false := by decide
theorem test_wf_admitted :
    (Instr.csrWrRo 0x5 0).wellFormed {} = true ∧ (Instr.evFatal 6).wellFormed {} = true ∧
      (Instr.dataPkt 0 true [0x11, 0x22]).wellFormed { payloadSize := 2 } = true := by decide

/-! ## Decoding: words written out from the spec's encodings -/

/-- F-CSR (R114 and spec 95, "Host words used below"). -/
theorem test_decode_csr :
    decode {} (.csr 0x0100000000) = .ok (.csrRd 0x1 0) ∧ decode {} (.csr 0x1000000002) = .ok (.csrWrCtrl 2) ∧
    decode {} (.csr 0x1000000001) = .ok (.start 1) ∧ decode {} (.csr 0x1000000003) = .ok (.start 3) ∧
    decode {} (.csr 0x1100010000) = .ok (.csrWrStatus 0x10000) ∧
    decode {} (.csr 0x1280000000) = .ok (.csrWrSrcBase 0x80000000) ∧
    decode {} (.csr 0x13000009C4) = .ok (.csrWrSrcLen 2500) ∧
    decode {} (.csr 0x14000000C8) = .ok (.csrWrTimeout 200) ∧
    decode {} (.csr 0x1500001234) = .ok (.csrWrRo 0x5 0x1234) ∧
    decode {} (.csr 0x1F00000005) = .ok (.csrWrRo 0xF 5) := by decide

/-- F-PORT (R117): PV bit by bit, rst first, in the state each guard names. -/
theorem test_decode_port :
    decode {} (.port 0b10000000 ⟨0, 0, 0⟩ 0 ⟨0b00000, 0, 0⟩) = .ok .reset ∧
    decode {} (.port 0b00000100 ⟨0, 0, 0⟩ 0xC3 ⟨0b00101, 0, 0⟩) = .ok (.memByte 0xC3) ∧
    decode {} (.port 0b00000110 ⟨0, 0, 0⟩ 9 ⟨0b00101, 0, 0⟩) = .ok .memErr ∧
    decode {} (.port 0b01000000 ⟨0, 0, 0⟩ 0 ⟨0b00110, 0, 0⟩) = .ok .txDoneFirst ∧
    decode {} (.port 0b01000000 ⟨0, 0, 0⟩ 0 ⟨0b10010, 0, 0⟩) = .ok .txDoneRetry ∧
    decode {} (.port 0b01100000 ⟨0, 0, 0⟩ 0 ⟨0b10010, 0, 0⟩) = .ok .txErr ∧
    decode {} (.port 0b00010000 ⟨2, 0x01, 0x02⟩ 0 ⟨0b01010, 1, 0x0102⟩) = .ok (.rxAckMatch ⟨2, 0x01, 0x02⟩) ∧
    decode {} (.port 0b00010000 ⟨2, 0x02, 0x01⟩ 0 ⟨0b01010, 1, 0x0102⟩) = .ok (.rxMismatch ⟨2, 0x02, 0x01⟩) ∧
    decode {} (.port 0b00011000 ⟨2, 0x00, 0x05⟩ 0 ⟨0b01010, 1, 5⟩) = .ok .rxErr ∧
    decode {} (.port 0b00000001 ⟨0, 0, 0⟩ 0 ⟨0b01010, 2, 0⟩) = .ok .msTick ∧
    decode {} (.port 0b00000001 ⟨0, 0, 0⟩ 0 ⟨0b01010, 1, 0⟩) = .ok .tickExpire ∧
    decode {} (.beside 0b00000001 0b00110) = .ok .tickElapsed := by decide

/-- Inputs outside their window select nothing (R123, V12). -/
theorem test_decode_port_ignored :
    decode {} (.port 0b00100000 ⟨0, 0, 0⟩ 0 ⟨0b01010, 1, 0⟩) = .error .noOperation ∧
    decode {} (.port 0b01010100 ⟨2, 0, 0⟩ 5 ⟨0b00000, 0, 0⟩) = .error .noOperation ∧
    decode {} (.beside 0b00000001 0b11010) = .error .noOperation := by decide

/-- F-STATE (R119): 011xx and 101xx, and a state that waits. -/
theorem test_decode_state :
    decode {} (.state 0b01110) = .ok .confirm ∧ decode {} (.state 0b10110) = .ok .abandon ∧
    decode {} (.state 0b10010) = .error .portSelected := by decide

/-- F-DATA (R112, W2 in small): sequence number big-endian, flag, payload; and the two rejections. -/
theorem test_decode_packet :
    decode { payloadSize := 3 } (.packet [0x00, 0x02, 0x01, 0xFA, 0xFB, 0x00]) =
      .ok (.dataPkt 0x0002 true [0xFA, 0xFB, 0x00]) ∧
    decode { payloadSize := 3 } (.packet [0x01, 0x02, 0x00, 0x11, 0x22, 0x33]) =
      .ok (.dataPkt 0x0102 false [0x11, 0x22, 0x33]) ∧
    decode { payloadSize := 3 } (.packet [0x00, 0x02, 0x02, 0, 0, 0]) = .error .packetFlag ∧
    decode { payloadSize := 3 } (.packet [0x00, 0x02, 0x01, 0, 0]) = .error .packetLength := by decide

/-- F-ACK (R113): two bytes, big-endian, and no other length. -/
theorem test_decode_ack :
    decode {} (.datagram [0x01, 0x02]) = .ok (.ackPkt 0x0102) ∧
    decode {} (.datagram [0x01, 0x02, 0x00]) = .error .datagramLength := by decide

/-- F-EVENT (V32), and the reserved words of R122. -/
theorem test_decode_event :
    decode {} (.event 0x10002) = .ok (.evSent 2) ∧ decode {} (.event 0x20004) = .ok (.evTimeout 4) ∧
    decode {} (.event 0x30000) = .ok (.evResend 0) ∧ decode {} (.event 0x40102) = .ok (.evAckAccepted 0x0102) ∧
    decode {} (.event 0x50002) = .ok (.evGiveUp 2) ∧ decode {} (.event 0x60006) = .ok (.evFatal 6) ∧
    decode {} (.event 0x00000) = .error .reservedEvent ∧ decode {} (.event 0x70000) = .error .reservedEvent ∧
    decode {} (.event 0x60007) = .error .reservedErrCode ∧ decode {} (.event 0x60010) = .error .fatalArgument := by decide

/-- The whole packet word of the table: 1024 zero bytes are frame 0, not last (R112). -/
theorem test_table_packet_word :
    (decodeTableWord 8192 0).map (fun i => (i.format, i.wellFormed {})) = some (.fData, true) := by decide +kernel

/-! ## Small states -/

/-- What a state shows after a next outcome. -/
def after {α : Type} (o : Host.Outcome State Fault Refusal) (f : State → α) : Option α :=
  match o with
  | .next t => some (f t)
  | .fault _ => none
  | .refused _ => none

/-- A configured state with the parameters of the source (CONFIG 0x80000000, 2500, 200). -/
def base : State := { State.reset with srcBase := 0x80000000, srcLen := 2500, timeoutMs := 200 }

/-- In the given STATE. -/
def at_ (st : ArqState) : State := { base with state := st }

/-- A configured state with two payload bytes a packet and one retransmission: frames 0 (two bytes) and 1 (one byte). -/
def tiny : State :=
  { State.reset with params := { payloadSize := 2, lastRetryLimit := 1 }, srcBase := 0x80000000, srcLen := 3,
                     timeoutMs := 3 }

/-- Frame 0 of `tiny`, being framed. -/
def framing0 : State := { tiny with state := .awaitingSend, frameLen := 2, memPend := true }

/-- Frame 0 of `tiny`, framed, in the given STATE. -/
def frame0 (st : ArqState) : State :=
  { tiny with state := st, frameLen := 2, memIdx := 2, pktReady := true, timer := 3, pktBuf := [(3, 0x11), (4, 0x22)] }

/-- Frame 1 of `tiny`, the last, framed, in the given STATE after the given attempts. -/
def frame1 (st : ArqState) (attempts : BitVec 16) : State :=
  { tiny with state := st, seq := 1, offset := 2, frameLen := 1, isLast := true, memIdx := 1, pktReady := true, timer := 1,
              lastAttempts := attempts, pktBuf := [(1, 0x01), (2, 0x01), (3, 0x33)] }

/-- What the event port and STATE show. -/
def port (t : State) : ArqState × Bool × BitVec 3 × BitVec 16 := (t.state, t.out.evValid, t.out.evCode, t.out.evArg)

/-- Whether the event port and STATE show the given values after a next outcome. -/
def shows (o : Host.Outcome State Fault Refusal) (st : ArqState) (code : BitVec 3) (arg : BitVec 16) : Bool :=
  after o port == some (st, code != 0, code, arg)

/-- R7 with other parameters: PACKET_SIZE = HEADER_SIZE + PAYLOAD_SIZE, MAX_LEN = 2^SEQ_W × PAYLOAD_SIZE, SEQ wraps at
2^SEQ_W (R26), and an acknowledgment has ACK_SIZE bytes (R113) in a length of RXLEN_W bits. -/
theorem test_parameters :
    let p : Params := { payloadSize := 10, headerSize := 5, ackSize := 4, seqW := 8, rxLenW := 3 }
    p.Legal ∧ p.packetSize = 15 ∧ p.maxLen = 2560 ∧ nextSeq p 0xFF = 0 ∧ nextSeq {} 0xFF = 0x100 ∧
    Datagram.acknowledges ⟨4, 0, 9⟩ p 9 ∧ Datagram.acknowledges ⟨2, 0, 9⟩ p 9 = false ∧
    after (exec (.memByte 0x77) { framing0 with params := p }) (·.pktBuf) = some [(5, 0x77)] := by decide

/-! ## Operations, one step each -/

/-- V25 and R43: PARAM, a reserved offset, and STATUS after V7's error. -/
theorem test_csrRd :
    after (exec (.csrRd 0xD 0) base) (·.out.csrRdata) = some 0x006403FD ∧
    after (exec (.csrRd 0xE 0) base) (·.out.csrRdata) = some 0 := by decide
/-- P1's FRAME word and V7's STATUS word. -/
theorem test_csrRd_packed :
    after (exec (.csrRd 0xB 0) { base with frameLen := 458, isLast := true, pktReady := true, memIdx := 458 })
      (·.out.csrRdata) = some 0x01CA19CA ∧
    after (exec (.csrRd 0x1 0) { at_ .error with errCode := 6, errState := .awaitingSend, irqPend := true })
      (·.out.csrRdata) = some 0x00011687 := by decide

/-- V26. -/
theorem test_csrWrCtrl :
    after (exec (.csrWrCtrl 2) base) (fun t => (t.irqEn, t.state, t.readValue 0)) = some (true, .idle, 2) ∧
    after (exec (.csrWrCtrl 0xFFFFFFFC) { base with irqEn := true }) (·.irqEn) = some false := by decide

/-- V1 (2500 bytes) and P8: START from DONE clears the statistics and frames frame 0. -/
theorem test_start_accepted :
    after (exec (.start 1) { at_ .done with seq := 3, offset := 2500, retx := 7, bytes := 2500, irqPend := true,
                                            irqEn := true })
      (fun t => t.state == .awaitingSend && t.seq == 0 && t.offset == 0 && t.frameLen == 1021 && !t.isLast && t.memPend
        && t.retx == 0 && t.bytes == 0 && !t.irqPend && !t.irqEn) = some true := by decide
/-- V27's order of checks and P6's STATUS word. -/
theorem test_start_rejected :
    after (exec (.start 1) { base with srcBase := 0, srcLen := 0x04000000, timeoutMs := 0 }) port =
      some (.error, true, 6, 1) ∧
    after (exec (.start 1) { base with srcBase := 0xFFFFFFFF, srcLen := 0x03FD0001, timeoutMs := 5 }) port =
      some (.error, true, 6, 2) ∧
    after (exec (.start 1) { base with srcBase := 0xFFFFFC00, srcLen := 0x401, timeoutMs := 5 }) port =
      some (.error, true, 6, 3) ∧
    after (exec (.start 1) { base with timeoutMs := 0 }) (·.statusWord) = some 0x00010187 := by decide

/-- V30's second write. -/
theorem test_csrWrStatus :
    after (exec (.csrWrStatus 0x10000) { at_ .done with irqPend := true }) (·.statusWord) = some 0x00000026 ∧
    after (exec (.csrWrStatus 0xFFFEFFFF) { at_ .done with irqPend := true }) (·.irqPend) = some true := by decide

/-- V29, and the same write while not BUSY. -/
theorem test_csrWrSrcLen :
    after (exec (.csrWrSrcLen 7) { at_ .awaitingAck with srcLen := 5000 }) (·.srcLen) = some 5000 ∧
    after (exec (.csrWrSrcLen 7) (at_ .error)) (·.srcLen) = some 7 := by decide
theorem test_csrWrSrcBase :
    after (exec (.csrWrSrcBase 0xFFFFFFFF) (at_ .retry)) (·.srcBase) = some 0x80000000 ∧
    after (exec (.csrWrSrcBase 0xFFFFFFFF) (at_ .idle)) (·.srcBase) = some 0xFFFFFFFF := by decide
theorem test_csrWrTimeout :
    after (exec (.csrWrTimeout 5) (at_ .abandoned)) (·.timeoutMs) = some 200 ∧
    after (exec (.csrWrTimeout 5) (at_ .done)) (·.timeoutMs) = some 5 := by decide
/-- V31. -/
theorem test_csrWrRo : exec (.csrWrRo 0x5 0x1234) base = exec (.csrWrRo 0xF 5) base := by rfl

/-- V33, of the operation: every register 0, PKT_BUF kept. -/
theorem test_reset :
    after (exec .reset (frame1 .awaitingAck 1)) (fun t => (t.statusWord, t.seq, t.timer, t.pktBuf)) =
      some (0, 0, 0, [(1, 0x01), (2, 0x01), (3, 0x33)]) := by decide

/-- V6. -/
theorem test_memByte :
    after (exec (.memByte 0xC3) { at_ .awaitingSend with memPend := true, memIdx := 457, frameLen := 458 })
      (fun t => (t.pktBuf.read 460, t.memIdx, t.memPend, t.pktReady, t.txValid)) =
      some (0xC3, 458, false, true, true) := by decide
/-- A byte that is not the frame's last. -/
theorem test_memByte_goes_on :
    after (exec (.memByte 0x11) framing0) (fun t => (t.pktBuf, t.memIdx, t.memPend, t.pktReady)) =
      some ([(3, 0x11)], 1, true, false) := by decide

/-- V7. -/
theorem test_memErr :
    after (exec .memErr { at_ .awaitingSend with seq := 3, offset := 3063, memIdx := 10, memPend := true })
      (fun t => (port t, t.errState, t.memIdx, t.statusWord)) =
      some ((.error, true, 6, 6), .awaitingSend, 10, 0x00011687) := by decide

/-- V9, and the datagram of the small frame. -/
theorem test_txDoneFirst :
    after (exec .txDoneFirst { at_ .awaitingSend with pktReady := true, seq := 1 }) (fun t => (port t, t.timer, t.retx)) =
      some ((.awaitingAck, true, 1, 1), 200, 0) ∧
    after (exec .txDoneFirst (frame0 .awaitingSend)) (·.out.sent) = some (some [0x00, 0x00, 0x00, 0x11, 0x22]) := by decide
/-- V10, and the last frame's datagram with its zero pad. -/
theorem test_txDoneRetry :
    after (exec .txDoneRetry { at_ .retry with timeoutMs := 3, retx := 1 }) (fun t => (port t, t.timer, t.retx)) =
      some ((.awaitingAck, true, 3, 0), 3, 1) ∧
    after (exec .txDoneRetry (frame1 .retry 1)) (·.out.sent) = some (some [0x00, 0x01, 0x01, 0x33, 0x00]) := by decide
/-- V11. -/
theorem test_txErr :
    after (exec .txErr { at_ .retry with seq := 5, retx := 3, pktReady := true }) (fun t => (port t, t.retx, t.statusWord)) =
      some ((.error, true, 6, 4), 3, 0x00014487) := by decide

/-- V13. -/
theorem test_rxAckMatch :
    after (exec (.rxAckMatch ⟨2, 0x01, 0x02⟩) { at_ .awaitingAck with seq := 0x0102 }) port =
      some (.confirmed, true, 4, 0x0102) := by decide
/-- V14, cases a and c, and V17. -/
theorem test_rxMismatch :
    after (exec (.rxMismatch ⟨2, 0x02, 0x01⟩) { at_ .awaitingAck with seq := 0x0102 }) (fun t => (port t, t.retx)) =
      some ((.retry, false, 0, 0), 1) ∧
    after (exec (.rxMismatch ⟨3, 0x01, 0x02⟩) { at_ .awaitingAck with seq := 0x0102 }) (·.state) = some .retry ∧
    after (exec (.rxMismatch ⟨1, 0, 0⟩) { at_ .awaitingAck with retx := 0xFFFFFFFF }) (·.retx) = some 0xFFFFFFFF := by
  decide
/-- P7's STATUS word. -/
theorem test_rxErr :
    after (exec .rxErr { at_ .awaitingAck with pktReady := true }) (fun t => (port t, t.statusWord)) =
      some ((.error, true, 6, 5), 0x00012587) := by decide

/-- V21. -/
theorem test_msTick : after (exec .msTick { at_ .awaitingAck with timer := 3 }) (·.timer) = some 2 := by decide
/-- V18 and V16. -/
theorem test_tickExpire :
    after (exec .tickExpire { at_ .awaitingAck with timer := 1 }) (fun t => (port t, t.timer, t.retx)) =
      some ((.retry, true, 2, 0), 0, 1) := by decide
theorem test_tickExpire_bound :
    after (exec .tickExpire { at_ .awaitingAck with timer := 1, isLast := true, lastAttempts := 99, retx := 99 })
      (fun t => (t.state, t.lastAttempts, t.retx)) = some (.retry, 100, 100) ∧
    after (exec .tickExpire { at_ .awaitingAck with timer := 1, isLast := true, lastAttempts := 100, retx := 100 })
      (fun t => (t.state, t.lastAttempts, t.retx)) = some (.abandoned, 101, 100) := by decide
/-- V22 and V23. -/
theorem test_tickElapsed :
    after (exec .tickElapsed (at_ .retry)) (·.elapsed) = some 1 ∧
    after (exec .tickElapsed { at_ .retry with elapsed := 0xFFFFFFFF }) (·.elapsed) = some 0xFFFFFFFF ∧
    after (exec .tickElapsed (at_ .done)) (·.elapsed) = some 0 := by decide

/-- V19. -/
theorem test_confirm :
    after (exec .confirm { at_ .confirmed with seq := 1, offset := 1021, pktReady := true })
      (fun t => t.state == .awaitingSend && t.seq == 2 && t.offset == 2042 && t.frameLen == 458 && t.isLast
        && t.pktBuf == [(1, 0x02), (2, 0x01)]) = some true ∧
    after (exec .confirm { at_ .confirmed with seq := 2, offset := 2042, frameLen := 458, isLast := true })
      (fun t => (t.state, t.seq, t.offset, t.bytes, t.irqPend)) = some (.done, 3, 2500, 2500, true) := by decide
/-- V4: the largest transfer, and the final wrap of SEQ. -/
theorem test_confirm_boundary :
    after (exec .confirm { at_ .confirmed with seq := 0xFFFE, offset := 66910214, srcBase := 0, srcLen := 0x03FD0000 })
      (fun t => ((t.seq, t.isLast, t.frameLen, t.memReq, t.memAddr),
        [t.pktBuf.read 0, t.pktBuf.read 1, t.pktBuf.read 2])) =
      some ((0xFFFF, true, 1021, true, 0x03FCFC03), [0xFF, 0xFF, 0x01]) ∧
    after (exec .confirm { at_ .confirmed with seq := 0xFFFF, offset := 0x03FCFC03, srcBase := 0, srcLen := 0x03FD0000,
                                               frameLen := 1021, isLast := true })
      (fun t => (t.state, t.seq, t.offset)) = some (.done, 0, 0x03FD0000) := by decide
/-- V20. -/
theorem test_abandon :
    after (exec .abandon { at_ .abandoned with seq := 2 }) (fun t => (port t, t.abandoned, t.bytes, t.irqPend, t.seq)) =
      some ((.done, true, 5, 2), true, 2500, true, 2) := by decide

/-- The packet on offer is handed over, another one is not (R86, R192; log 8). -/
theorem test_dataPkt :
    after (exec (.dataPkt 1 true [0x33, 0x00]) (frame1 .retry 0)) (·.out.sent) =
      some (some [0x00, 0x01, 0x01, 0x33, 0x00]) ∧
    after (exec (.dataPkt 1 false [0x33, 0x00]) (frame1 .retry 0)) (·.out.sent) = some none := by decide
/-- W7: a matching acknowledgment confirms, another one retries, and one outside AWAITING_ACK waits. -/
theorem test_ackPkt :
    after (exec (.ackPkt 1) (frame1 .awaitingAck 0)) (·.state) = some .confirmed ∧
    after (exec (.ackPkt 0) (frame1 .awaitingAck 0)) (·.state) = some .retry ∧
    after (exec (.ackPkt 1) (frame1 .retry 0)) (·.state) = some .retry := by decide
/-- V32. -/
theorem test_event_words :
    shows (exec (.evSent 2) base) .idle 1 2 ∧ shows (exec (.evTimeout 4) base) .idle 2 4 ∧
    shows (exec (.evResend 0) base) .idle 3 0 ∧ shows (exec (.evAckAccepted 0x0102) base) .idle 4 0x0102 ∧
    shows (exec (.evGiveUp 2) base) .idle 5 2 ∧ shows (exec (.evFatal 6) base) .idle 6 6 := by decide

/-! ## Cycles: one step each -/

/-- A line of a script as the next sample. -/
def withLine (s : State) (items : List ScriptItem) : State :=
  match scriptLine items with
  | some x => s.offer x
  | none => s

/-- V13's last row: the acknowledgment wins over the tick, which is counted in ELAPSED. -/
theorem test_step_ack_beats_tick :
    after (step (withLine { at_ .awaitingAck with seq := 5, timer := 1 } [ackItem 5, .tick]))
      (fun t => (port t, t.timer, t.elapsed, t.out.rxTaken)) = some ((.confirmed, true, 4, 5), 1, 1, true) := by decide
/-- V15: rx_err beats rx_valid. -/
theorem test_step_rxErr :
    after (step (withLine { at_ .awaitingAck with seq := 5 } [.rxErr, ackItem 5])) (fun t => (port t, t.errState)) =
      some ((.error, true, 6, 5), .awaitingAck) := by decide
/-- V23: a tick beside START is not counted, and one in the last CONFIRM is. -/
theorem test_step_tick_beside :
    after (step (withLine base [startItem, .tick])) (fun t => (t.state, t.elapsed)) = some (.awaitingSend, 0) ∧
    after (step (withLine (frame1 .confirmed 0) [.tick])) (fun t => (t.state, t.elapsed)) = some (.done, 1) := by decide
/-- V28: START while BUSY. -/
theorem test_step_start_busy :
    after (step (withLine { at_ .awaitingAck with seq := 5 } [startiItem])) (fun t => (t.irqEn, t.state, t.seq)) =
      some (true, .awaitingAck, 5) := by decide
/-- V30: the clear and the set in one cycle. -/
theorem test_step_w1c_against_set :
    after (step (withLine (frame1 .confirmed 0) [.wr 0x04 0x10000])) (fun t => (t.irqPend, t.statusWord)) =
      some (true, 0x00010026) := by decide
/-- V33: reset beats everything else in its cycle. -/
theorem test_step_reset :
    after (step (withLine { frame1 .awaitingAck 1 with irqEn := true } [.rst, ackItem 1])) (fun t => (port t, t.statusWord)) =
      some ((.idle, false, 0, 0), 0) := by decide
/-- P2, c1028: a host read in a quiet cycle; and P8's requested address. -/
theorem test_step_read :
    after (step (withLine { at_ .awaitingAck with timer := 2 } [.rd 0x30])) (·.out.csrRdata) = some 2 ∧
    after (step (withLine { framing0 with offset := 1021, memIdx := 5 } [.cycle])) (fun t => (t.out.memReq, t.out.memAddr)) =
      some (true, 0x80000402) := by decide

/-- The host's words as the first operation after reset: RESET, TXDONE, SENT(0), FATAL(1), ACK 0, CONFIRM, STARTI. -/
theorem test_fetch_words :
    shows (step (State.reset.withFetchWord 8 0x80)) .idle 0 0 ∧
    shows (step (State.reset.withFetchWord 8 0x40)) .awaitingAck 1 0 ∧
    shows (step (State.reset.withFetchWord 24 0x10000)) .awaitingAck 1 0 ∧
    shows (step (State.reset.withFetchWord 24 0x60001)) .error 6 1 ∧
    shows (step (State.reset.withFetchWord 16 0)) .confirmed 4 0 ∧
    shows (step (State.reset.withFetchWord 5 0b01100)) .awaitingSend 0 0 ∧
    shows (step (State.reset.withFetchWord 8 0b10100)) .done 5 0 ∧
    shows (step (State.reset.withFetchWord 40 0x1000000003)) .error 6 1 := by decide

/-- R125: two accesses in a line, an empty line and an unaligned offset are no lines. -/
theorem test_script_lines :
    scriptLine [.rd 0, .wr 4 0] = none ∧ scriptLine [] = none ∧ scriptLine [.rd 2] = none ∧
    (scriptLine [ackItem 0x0102, .tick]).map (fun x => (x.pv, x.rx)) = some (0x11, ⟨2, 0x01, 0x02⟩) := by decide

/-- W10 and V24. -/
theorem test_throughput : throughput 2500 0 = none ∧ throughput 1024 1000 = some 1 := by
  constructor
  · decide
  · have h : (1000 : BitVec 32) ≠ 0 := by decide
    rw [throughput, if_neg h, show (1024 : BitVec 32).toNat = 1024 from rfl, show (1000 : BitVec 32).toNat = 1000 from rfl]
    norm_num

/-! ## Witnesses: a state and operands that meet all hypotheses of a statement, clause by clause -/

/-- Frame 0 of `tiny` with one of its two bytes read. -/
def framing0b : State := { framing0 with memIdx := 1, pktBuf := [(3, 0x11)] }

/-- Source memory of the witnesses. -/
def image (a : Nat) : Byte := if a = 0x80000000 then 0x11 else 0x22

theorem inv_framing0 : BlockInv framing0 := by
  constructor <;> first | decide | (intro _; constructor <;> decide)
theorem inv_framing0b : BlockInv framing0b := by
  constructor <;> first | decide | (intro _; constructor <;> decide)
theorem inv_frame0_offered : BlockInv (frame0 .awaitingSend) := by
  constructor <;> first | decide | (intro _; constructor <;> decide)
theorem inv_frame0_confirmed : BlockInv (frame0 .confirmed) := by
  constructor <;> first | decide | (intro _; constructor <;> decide)
theorem inv_frame1_waiting : BlockInv (frame1 .awaitingAck 0) := by
  constructor <;> first | decide | (intro _; constructor <;> decide)
theorem inv_frame1_retry : BlockInv (frame1 .retry 1) := by
  constructor <;> first | decide | (intro _; constructor <;> decide)
theorem inv_frame1_confirmed : BlockInv (frame1 .confirmed 1) := by
  constructor <;> first | decide | (intro _; constructor <;> decide)
theorem inv_frame1_abandoned : BlockInv (frame1 .abandoned 2) := by
  constructor <;> first | decide | (intro _; constructor <;> decide)

theorem witness_DecodeOfEncodeIsTheOperation :
    ((Instr.rxAckMatch ⟨2, 1, 2⟩).wellFormed {} ∧ (Instr.rxAckMatch ⟨2, 1, 2⟩).guard {} ⟨0b01010, 1, 0x0102⟩) ∧
    ((Instr.csrWrRo 5 0).wellFormed {} ∧ (Instr.csrWrRo 15 0).wellFormed {} ∧ (Instr.evFatal 6).wellFormed {}) ∧
    (Instr.msTick.guard {} ⟨0b01010, 2, 0⟩ ∧ Instr.tickExpire.guard {} ⟨0b01010, 1, 0⟩ ∧ Instr.txErr.guard {} ⟨0b10010, 0, 0⟩) ∧
    (Instr.dataPkt 0xFFFF true [1, 2]).wellFormed { payloadSize := 2 } := by decide

theorem witness_SelectedOperationFitsItsRow :
    pvRst (0x11 : BitVec 8) = false ∧
    arqOp { Sample.quiet with pv := 0x11, rx := ⟨2, 0, 1⟩ } (frame1 .awaitingAck 0) = some (.rxAckMatch ⟨2, 0, 1⟩) ∧
    elapsedOp { Sample.quiet with pv := 0x11 } (frame1 .awaitingAck 0) = some .tickElapsed := by decide

theorem witness_ResetClearsAllButThePacketBuffer :
    pvRst (withLine (frame1 .awaitingAck 1) [.rst, ackItem 1]).sample.pv = true := by decide

theorem witness_RegistersReadZeroAfterReset :
    base.params = {} ∧ (0xC : BitVec 4) ≠ 0xD ∧ (0xE : BitVec 4) ≠ 0xD := by decide

/-- Each offset's clause, at 0x0 and 0xF too, on a state whose fields are all nonzero or all set. -/
theorem witness_ReadReturnsTheRegister :
    [0x0, 0x1, 0x5, 0x8, 0xB, 0xC, 0xD, 0xF].map
        (State.readValue { frame1 .error 1 with irqEn := true, irqPend := true, abandoned := true, errCode := 0xF,
                                                errState := .error, memPend := true, memIdx := 0x7FF, frameLen := 0x7FF,
                                                timer := 0x7FFFFFFF }) =
      [0x2, 0x17FC7, 0x1, 0x1, 0x07FF3FFF, 0x7FFFFFFF, 0x00010002, 0] := by decide

theorem witness_ControlAndStatusWrites :
    (0x10000 : BitVec 32).getLsbD 16 = true ∧ (0xFFFEFFFF : BitVec 32).getLsbD 16 = false ∧
    (let s := withLine (frame1 .confirmed 1) [.wr 0x04 0x10000]
     pvRst s.sample.pv = false ∧ clearsIrq s.sample = true ∧ s.busy = true ∧ after (step s) (·.state) = some .done) := by
  decide

/-- BUSY at its first and last STATE, and not BUSY in the other three. -/
theorem witness_ConfigurationWrites :
    (at_ .awaitingSend).busy ∧ (at_ .abandoned).busy ∧ (at_ .idle).busy = false ∧ (at_ .done).busy = false ∧
    (at_ .error).busy = false := by decide
theorem witness_StartWhileBusyWritesOnlyIrqEn : (frame1 .awaitingAck 0).busy = true := by decide

/-- V27's accepted rows: the smallest and largest timeout, the largest length, the top of the address space. -/
theorem witness_AcceptedStartFramesTheFirstFrame :
    base.params.Legal ∧ base.busy = false ∧
    (1 ≤ (1 : BitVec 32).toNat ∧ (0x7FFFFFFF : BitVec 32).toNat < 2 ^ 31) ∧
    (0x03FD0000 : BitVec 32).toNat ≤ base.params.maxLen ∧
    (0xFFFFFC00 : BitVec 32).toNat + (0x400 : BitVec 32).toNat ≤ 2 ^ 32 ∧ (2500 : BitVec 32).toNat ≤ base.params.maxLen := by
  decide

/-- V27's rejected rows, each code at its boundary. -/
theorem witness_RejectedStartTakesTheFirstFailingCode :
    base.busy = false ∧
    ({ base with timeoutMs := 0 } : State).check = 1 ∧ ({ base with timeoutMs := 0x80000000 } : State).check = 1 ∧
    ({ base with srcBase := 0, srcLen := 0x03FD0001 } : State).check = 2 ∧
    ({ base with srcBase := 0xFFFFFC00, srcLen := 0x401 } : State).check = 3 := by decide

theorem witness_MemoryByteFillsOneBufferByte :
    (framing0.pktBuf.wf ∧ framing0.state = .awaitingSend ∧ framing0.memPend = true ∧
      framing0.params.headerSize + framing0.memIdx.toNat < framing0.params.packetSize ∧ framing0.memIdx + 1 ≠ framing0.frameLen) ∧
    (framing0b.pktBuf.wf ∧ framing0b.params.headerSize + framing0b.memIdx.toNat < framing0b.params.packetSize ∧
      framing0b.memIdx + 1 = framing0b.frameLen) := by decide

theorem witness_MemoryByteStopsBeyondTheBuffer :
    ({ framing0 with memIdx := 2 } : State).params.packetSize ≤ framing0.params.headerSize + ({ framing0 with memIdx := 2 } : State).memIdx.toNat ∧
    framing0.state = .awaitingSend ∧ framing0.memPend = true := by decide

theorem witness_MemoryRequestsStayInTheSourceBuffer : BlockInv framing0b ∧ framing0b.memReq = true :=
  ⟨inv_framing0b, by decide⟩

theorem witness_ErrorInputsTakeTheFatalEntry :
    framing0.memReq = true ∧ (frame0 .awaitingSend).txValid = true ∧ (frame1 .retry 1).txValid = true ∧
    (frame1 .awaitingAck 0).rxReady = true := by decide

/-- Each error with the success input of its port in the same cycle (R168, R305, R306), and a host access beside it. -/
theorem witness_ErrorInputsEndTheTransferAtOnce :
    (pvRst (withLine framing0b [.memErr, .mem 5]).sample.pv = false ∧ framing0b.memReq = true ∧
      pvMemErr (withLine framing0b [.memErr, .mem 5]).sample.pv = true) ∧
    ((frame0 .awaitingSend).txValid = true ∧ (frame0 .awaitingSend).memReq = false ∧
      pvTxErr (withLine (frame0 .awaitingSend) [.txErr, .txDone]).sample.pv = true) ∧
    ((frame1 .retry 1).txValid = true ∧ (frame1 .retry 1).memReq = false ∧
      pvTxErr (withLine (frame1 .retry 1) [.txErr, .wr 0 2]).sample.pv = true) ∧
    ((frame1 .awaitingAck 0).rxReady = true ∧
      pvRxErr (withLine (frame1 .awaitingAck 0) [.rxErr, ackItem 1]).sample.pv = true) := by decide

/-- The windows of ErrorOperationsComplete and their outsides. -/
theorem witness_ErrorOperationsComplete :
    (framing0.state = .awaitingSend ∧ framing0.memPend = true) ∧
    ((frame0 .awaitingSend).state = .awaitingSend ∧ (frame0 .awaitingSend).pktReady = true ∧
      (frame0 .awaitingSend).memPend = false) ∧
    (frame1 .retry 1).state = .retry ∧ (frame1 .awaitingAck 0).state = .awaitingAck := by decide

theorem witness_TransmitCompletionSendsAndWaits :
    ((frame0 .awaitingSend).state = .awaitingSend ∧ (frame0 .awaitingSend).pktReady = true) ∧
    (frame1 .retry 1).state = .retry := by decide

theorem witness_MatchingAcknowledgmentConfirms :
    ({ at_ .awaitingAck with seq := 0xFFFF } : State).seq.toNat = (0xFF : Byte).toNat * 256 + (0xFF : Byte).toNat ∧
    (frame1 .awaitingAck 0).state = .awaitingAck ∧
    (⟨2, 0, 1⟩ : Datagram).length (frame1 .awaitingAck 0).params = (frame1 .awaitingAck 0).params.ackSize ∧
    (0x00 : Byte).toNat * 256 + (0x01 : Byte).toNat = (frame1 .awaitingAck 0).seq.toNat := by decide

/-- Wrong number, wrong length; a frame that is not last, and the last one below and at its limit. -/
theorem witness_MismatchIsANegativeOutcome :
    ((⟨2, 2, 1⟩ : Datagram).length tiny.params = tiny.params.ackSize ∧ ¬((0x02 : Byte).toNat * 256 + (0x01 : Byte).toNat = (frame1 .awaitingAck 0).seq.toNat)) ∧
    (⟨1, 0, 1⟩ : Datagram).length tiny.params ≠ tiny.params.ackSize ∧
    (⟨3, 0, 1⟩ : Datagram).length tiny.params ≠ tiny.params.ackSize ∧
    (frame0 .awaitingAck).isLast = false ∧ (frame1 .awaitingAck 0).isLast = true ∧
    (frame1 .awaitingAck 0).negative.lastAttempts.toNat ≤ 1 ∧ 1 < (frame1 .awaitingAck 1).negative.lastAttempts.toNat := by
  decide

theorem witness_ExpiryIsANegativeOutcome :
    (frame1 .awaitingAck 0).state = .awaitingAck ∧ (frame1 .awaitingAck 0).timer.toNat ≤ 1 ∧
    ({ frame0 .awaitingAck with timer := 0 } : State).timer.toNat ≤ 1 := by decide

theorem witness_TicksCount :
    (frame0 .awaitingAck).state = .awaitingAck ∧ 1 < (frame0 .awaitingAck).timer.toNat ∧ (frame0 .confirmed).busy = true := by
  decide

theorem witness_ConfirmFramesTheNextFrame :
    BlockInv (frame0 .confirmed) ∧ (frame0 .confirmed).state = .confirmed ∧ (frame0 .confirmed).isLast = false :=
  ⟨inv_frame0_confirmed, by decide, by decide⟩

theorem witness_ConfirmCompletesTheLastFrame :
    BlockInv (frame1 .confirmed 1) ∧ (frame1 .confirmed 1).state = .confirmed ∧ (frame1 .confirmed 1).isLast = true :=
  ⟨inv_frame1_confirmed, by decide, by decide⟩

theorem witness_AbandonCompletesWithoutAdvancing : (frame1 .abandoned 2).state = .abandoned := by decide

/-- Each alternative of each clause: another STATE, or the right STATE with the other condition broken. -/
theorem witness_OutsideItsWindowNothingChanges :
    (at_ .idle).state ≠ .awaitingSend ∧ (frame0 .awaitingSend).memPend = false ∧ framing0.pktReady = false ∧
    (frame0 .awaitingSend).state ≠ .retry ∧ (frame1 .retry 1).state ≠ .awaitingAck ∧
    (Datagram.acknowledges ⟨3, 0, 1⟩ {} (frame1 .awaitingAck 0).seq = false ∧
      Datagram.acknowledges ⟨2, 0, 1⟩ {} (frame1 .awaitingAck 0).seq = true) ∧
    (frame1 .awaitingAck 0).timer.toNat ≤ 1 ∧ 1 < (frame0 .awaitingAck).timer.toNat ∧ (at_ .error).busy = false ∧
    (at_ .retry).state ≠ .confirmed ∧ (at_ .retry).state ≠ .abandoned := by decide

theorem witness_OnlyTheOfferedPacketIsSent :
    ((frame1 .retry 0).txValid = true ∧ (frame1 .retry 0).packet = headerBytes 1 true ++ [0x33, 0x00]) ∧
    (frame1 .awaitingAck 0).txValid = false ∧ (frame1 .retry 0).packet ≠ headerBytes 1 false ++ [0x33, 0x00] := by decide

theorem witness_AcknowledgmentIsMatchedOrNegative :
    (at_ .retry).state ≠ .awaitingAck ∧ (frame1 .awaitingAck 0).state = .awaitingAck ∧
    (1 : BitVec 16) = (frame1 .awaitingAck 0).seq ∧ (0 : BitVec 16) ≠ (frame1 .awaitingAck 0).seq := by decide

theorem witness_EventWordsDriveTheEventPort :
    (Instr.evFatal 6 = .evFatal 6 ∧ (6 : BitVec 3) = 6 ∧ (6 : BitVec 16).toNat = (6 : BitVec 4).toNat) ∧
    (Instr.evSent 0xFFFF = .evSent 0xFFFF ∧ (1 : BitVec 3) = 1) := by decide

/-- A reset cycle; and a cycle with all three lanes: a host access, a tick while BUSY, and a decoded operation. -/
theorem witness_StepRunsTheDecodedOperations :
    pvRst (withLine base [.rst]).sample.pv = true ∧
    (let s := withLine (frame0 .awaitingAck) [.rd 0x30, .tick]
     pvRst s.sample.pv = false ∧ s.sample.csrEn = true ∧ pvMsTick s.sample.pv = true ∧ s.busy = true ∧
       decodeArq s.params s.sample.pv s.sample.rx s.sample.memData s.guardView = some .msTick) := by decide

theorem witness_PresentedOperationIsRun :
    (Instr.msTick.wellFormed base.params = true ∧ Instr.msTick.format = .fPort) ∧
    ((Instr.start 1).wellFormed base.params = true ∧ (Instr.start 1).format = .fCsr ∧ base.state ≠ .confirmed ∧
      base.state ≠ .abandoned) ∧ Instr.confirm.format = .fState := by decide

theorem witness_PresentedWordIsDriven :
    decodeTableWord 24 0x60001 = some (.evFatal 1) ∧ base.params.Legal ∧
    (1 ≤ (1 : BitVec 4).toNat ∧ (6 : BitVec 4).toNat ≤ 6) ∧ 3 + [0x11, (0x22 : Byte)].length = tiny.params.packetSize := by
  decide

theorem witness_OutputsReadTheStartOfTheCycle :
    after (step (withLine framing0b [.mem 0x22])) (fun t => t.out.memReq) = some true ∧ framing0b.memReq = true ∧
    (withLine framing0b [.mem 0x22]).sample.pktRdAddr.toNat < framing0b.params.packetSize := by decide

theorem witness_EventPortIsQuietOrNamesAnEvent :
    after (step (withLine framing0b [.cycle])) (·.out.evValid) = some false ∧
    after (step (withLine framing0b [.memErr])) (·.out.evValid) = some true := by decide

theorem witness_StepsFollowTheTransitionTable :
    pvRst (withLine (frame1 .awaitingAck 1) [.tick]).sample.pv = false ∧
    after (step (withLine (frame1 .awaitingAck 1) [.tick])) (·.state) = some .abandoned ∧
    after (step (withLine { at_ .error with timeoutMs := 0 } [startItem])) (fun t => (t.state, t.out.evArg)) =
      some (.error, 1) ∧
    after (step (withLine base [startItem])) (·.state) = some .awaitingSend ∧
    after (step (withLine base [.wr 0x00 2])) (·.state) = some base.state ∧
    after (step (withLine (frame0 .awaitingAck) [.tick])) (·.state) = some .awaitingAck := by decide

theorem witness_OnlyAMatchEntersConfirmed :
    after (step (withLine (frame1 .awaitingAck 1) [ackItem 1])) (·.state) = some .confirmed := by decide

theorem witness_SequenceAdvancesOnlyOnConfirm :
    after (step (withLine (frame0 .confirmed) [.cycle])) (·.seq) = some 1 ∧
    after (step (withLine (at_ .done) [startItem])) (·.seq) = some 0 ∧
    after (step (withLine (frame1 .retry 1) [.tick])) (·.seq) = some 1 := by decide

theorem witness_ConfigurationHoldsWhileBusy :
    after (step (withLine framing0b [.wr 0x0C 7])) (·.srcLen) = some 3 ∧ framing0b.busy = true ∧
    pvRst (withLine framing0b [.wr 0x0C 7]).sample.pv = false := by decide

/-- The four waiting states, each with strobes of other ports. -/
theorem witness_WaitingStatesHold :
    ((withLine base [.txDone, .mem 5]).sample.csrEn = false ∧ base.busy = false) ∧
    ((withLine framing0b [.txDone]).memReq = true ∧ pvMemRspValid (withLine framing0b [.txDone]).sample.pv = false) ∧
    ((frame1 .retry 1).memPend = false ∧ (frame1 .retry 1).txValid = true ∧
      pvTxDone (withLine (frame1 .retry 1) [ackItem 1]).sample.pv = false) ∧
    ((frame1 .awaitingAck 1).rxReady = true ∧ pvRxValid (withLine (frame1 .awaitingAck 1) [.txErr]).sample.pv = false) := by
  decide

theorem witness_OutOfWindowStrobesMakeNoDifference :
    (frame1 .awaitingAck 1).txValid = false ∧ (frame1 .retry 1).memReq = false ∧ framing0.rxReady = false := by decide

theorem witness_BytesOfAnIllSizedDatagramMakeNoDifference :
    (⟨0, 0, 0⟩ : Datagram).length tiny.params ≠ tiny.params.ackSize ∧
    (⟨3, 0, 1⟩ : Datagram).length tiny.params ≠ tiny.params.ackSize := by decide

theorem witness_ElapsedCountsBusyTicks :
    after (step (withLine framing0b [.rst])) (·.elapsed) = some 0 ∧
    after (step (withLine { framing0b with elapsed := 0xFFFFFFFF } [.tick])) (·.elapsed) = some 0xFFFFFFFF ∧
    after (step (withLine { at_ .done with elapsed := 7 } [startItem, .tick])) (·.elapsed) = some 0 ∧
    after (step (withLine { at_ .done with elapsed := 7 } [.wr 0x00 2, .tick])) (·.elapsed) = some 7 := by decide

theorem witness_CompletionInterruptIsNotLost :
    after (step (withLine (frame1 .abandoned 2) [.wr 0x04 0x10000])) (fun t => (t.state, t.irqPend)) = some (.done, true) ∧
    after (step (withLine framing0b [.memErr])) (fun t => (t.state, t.irqPend)) = some (.error, true) ∧
    after (step (withLine { at_ .done with irqPend := true } [.rst])) (·.irqPend) = some false ∧
    (commandsStart (withLine base [startItem]).sample = true ∧ (at_ .done).busy = false) ∧
    after (step (withLine { at_ .done with timeoutMs := 0 } [startItem])) (fun t => (t.state, t.irqPend)) =
      some (.error, true) ∧
    after (step (withLine { base with irqPend := true } [startItem])) (·.irqPend) = some false ∧
    after (step (withLine { at_ .done with irqPend := true } [.wr 0x04 0x10000])) (·.irqPend) = some false ∧
    after (step (withLine { at_ .done with irqPend := true } [.wr 0x04 0xFFFEFFFF])) (·.irqPend) = some true := by decide

theorem witness_OfferedPacketIsStable :
    after (step (withLine (frame1 .retry 1) [.mem 5])) (·.pktBuf) = some (frame1 .retry 1).pktBuf ∧
    (frame1 .retry 1).memPend = false ∧ (frame1 .retry 1).txValid = true := by decide

theorem witness_EveryWaitHasTheFullTimeout :
    after (step (withLine (frame1 .retry 1) [.txDone])) (·.state) = some .awaitingAck ∧
    (frame1 .retry 1).state ≠ .awaitingAck := by decide

theorem witness_OnlyTheLastFrameIsAbandoned :
    after (step (withLine (frame1 .awaitingAck 1) [ackItem 0])) (·.state) = some .abandoned := by decide

theorem witness_EveryOperationKeepsTheInvariant :
    BlockInv (frame0 .confirmed) ∧ after (exec .confirm (frame0 .confirmed)) (·.state) = some .awaitingSend :=
  ⟨inv_frame0_confirmed, by decide⟩

theorem witness_EveryStepKeepsTheInvariant :
    BlockInv (frame1 .abandoned 2) ∧ after (step (withLine (frame1 .abandoned 2) [.tick])) (·.state) = some .done :=
  ⟨inv_frame1_abandoned, by decide⟩

theorem witness_EveryStepGoesOn : BlockInv framing0b := inv_framing0b

theorem witness_OfferedPacketIsTheFrame :
    (BlockInv (frame0 .awaitingSend) ∧ (frame0 .awaitingSend).txValid = true) ∧
    (BlockInv (frame1 .retry 1) ∧ (frame1 .retry 1).txValid = true ∧
      (frame1 .retry 1).frameLen.toNat ≤ 1 ∧ 1 < (frame1 .retry 1).params.payloadSize) :=
  ⟨⟨inv_frame0_offered, by decide⟩, inv_frame1_retry, by decide, by decide, by decide⟩

theorem witness_PayloadIsTheSourceBytes :
    BlockInv framing0b ∧ carries image framing0b ∧ answersFrom image framing0b (withLine framing0b [.mem 0x22]).sample ∧
    after (step (withLine framing0b [.mem 0x22])) (·.pktReady) = some true :=
  ⟨inv_framing0b, fun _ => by decide, fun _ _ => by decide, by decide⟩

theorem witness_LastFrameHasTheLastNumber :
    BlockInv (frame1 .retry 1) ∧ (frame1 .retry 1).busy = true ∧ (frame1 .retry 1).isLast = true :=
  ⟨inv_frame1_retry, by decide, by decide⟩

theorem witness_EveryResendIsIdentical :
    (frame1 .retry 1).state = .retry ∧
    ∀ u ∈ trace 1 (withLine (frame1 .retry 1) [.txDone]), u.state = .awaitingAck ∨ u.state = .retry := by decide

/-- The last frame of `tiny` from its first wait: a timeout, its one retransmission, a timeout. -/
def lastRun : State := { frame1 .awaitingAck 0 with timeoutMs := 1, inputs := [strobes 0x01, strobes 0x40, strobes 0x01] }

theorem inv_lastRun : BlockInv lastRun := by
  constructor <;> first | decide | (intro _; constructor <;> decide)

theorem witness_LastFrameIsResentExactlyToItsLimit :
    BlockInv lastRun ∧ lastRun.state = .awaitingAck ∧ lastRun.isLast = true ∧ lastRun.lastAttempts = 0 ∧
    (∀ u ∈ trace 3 lastRun, u.busy = true) ∧ ((trace 3 lastRun).getLast?.map (·.state)) = some .abandoned :=
  ⟨inv_lastRun, by decide, by decide, by decide, by decide, by decide⟩

theorem witness_RetxCountsTheResends :
    lastRun.retx.toNat + 2 < 2 ^ 32 ∧ (∀ u ∈ trace 2 lastRun, u.busy = true) ∧ lastRun.busy = true ∧
    ((trace 2 lastRun).getLast?.map (fun t => (t.retx, t.state))) = some (1, .awaitingAck) := by decide

/-- V21's ticks: three of them, with an idle cycle between; the first clause at two ticks, the second at the third. -/
theorem witness_TimeoutComesAtTheLastTick :
    let xs := [strobes 0x01, Sample.quiet, strobes 0x01]
    (∀ x ∈ xs, pvRst x.pv = false ∧ pvRxErr x.pv = false ∧ pvRxValid x.pv = false) ∧
    xs.countP (fun x => pvMsTick x.pv) < (frame0 .awaitingAck).timer.toNat ∧
    xs.countP (fun x => pvMsTick x.pv) + 1 = (frame0 .awaitingAck).timer.toNat ∧ pvMsTick (strobes 0x01).pv = true ∧
    (frame0 .awaitingAck).state = .awaitingAck := by decide

end Sys2Proof.Tests
end

section
/-! The composition of one cycle (rule R191): what each of the first two lanes leaves, and a step as the state machine's
lane run from there. -/

namespace Sys2Proof.Machine

@[simp] theorem runOp_some (i : Instr) (s : State) : runOp (some i) s = exec i s := rfl

@[simp] theorem runOp_none (s : State) : runOp none s = .next s := rfl

/-- The host lane: the decoded access, or nothing. -/
theorem host_lane_eq_next_iff (x : Sample) (s t : State) :
    runOp (hostOp x) s = .next t ↔
      (x.csrEn = true → exec (decodeCsr x.csr) s = .next t) ∧ (x.csrEn = false → t = s) := by
  cases he : x.csrEn <;> simp [hostOp, he, eq_comm]

/-- The elapsed-time lane outside reset: TICK_ELAPSED where the cycle starts BUSY with a tick, or nothing. -/
theorem elapsed_lane_eq_next_iff (x : Sample) (s s1 t : State) (hr : pvRst x.pv = false) :
    runOp (elapsedOp x s) s1 = .next t ↔
      (pvMsTick x.pv = true ∧ s.busy = true → exec .tickElapsed s1 = .next t) ∧
        (pvMsTick x.pv = false ∨ s.busy = false → t = s1) := by
  rw [elapsedOp_eq]
  cases hk : pvMsTick x.pv <;> cases hb : s.busy <;> simp [hr, eq_comm]

/-- A cycle without reset, once the host lane and the elapsed-time lane have run: the state machine's lane, its operation
selected by the state at the start of the cycle. -/
theorem step_eq_arq_lane {s s1 s2 : State} (hr : pvRst s.sample.pv = false)
    (host : runOp (hostOp s.sample) (s.openCycle s.sample) = .next s1)
    (elapsed : runOp (elapsedOp s.sample s) s1 = .next s2) : step s = runOp (arqOp s.sample s) s2 := by
  simp [step, runCycle, hr, host, elapsed, andThen]

/-- Settles O29: a reset cycle is `step_reset`; in any other, the hypotheses say that the first two lanes leave `s2`, and
the two conclusions are the third lane with and without an operation. -/
theorem stepRunsTheDecodedOperations : Obligations.StepRunsTheDecodedOperations := by
  rintro s x rfl
  refine ⟨step_reset s, fun hr s1 s2 access noAccess counted notCounted => ?_⟩
  have host := (host_lane_eq_next_iff _ _ _).mpr ⟨access, noAccess⟩
  have elapsed := (elapsed_lane_eq_next_iff _ s _ _ hr).mpr ⟨counted, notCounted⟩
  have lane : step s = runOp (arqOp s.sample s) s2 := step_eq_arq_lane hr host elapsed
  constructor
  · intro i (selected : arqOp s.sample s = some i)
    rw [lane, selected, runOp_some]
  · intro (idle : arqOp s.sample s = none)
    rw [lane, idle, runOp_none]

end Sys2Proof.Machine
end

section
/-! The invariant (rules R35, R37, R58 and R301): for each update that the operations share, one lemma that says
when the update keeps it. -/

namespace Sys2Proof.Machine

/-! ## The fields that the invariant does not read -/

/-- The interrupt enable, the elapsed time and the model's own bookkeeping are free. -/
theorem BlockInv.of_unread_fields {s : State} (h : BlockInv s) (en : Bool) (el : BitVec 32) (inputs : List Sample)
    (cycle : Nat) (out : Outputs) :
    BlockInv { s with irqEn := en, elapsed := el, inputs := inputs, cycle := cycle, out := out } :=
  { h with transfer := fun hb => { h.transfer hb with } }

theorem BlockInv.openCycle {s : State} (h : BlockInv s) (x : Sample) : BlockInv (s.openCycle x) :=
  h.of_unread_fields ..

/-- Clearing IRQ_PEND, or leaving it, is free in every state (rule R278). -/
theorem BlockInv.clear_irqPend {s : State} (h : BlockInv s) (keep : Bool) :
    BlockInv { s with irqPend := s.irqPend && keep } :=
  { h with
    irqEnded := fun hi => h.irqEnded (Bool.and_eq_true_iff.mp hi).1
    transfer := fun hb => { h.transfer hb with noIrq := by simp [(h.transfer hb).noIrq] } }

/-- While not BUSY the configuration registers are free (rules R272 and R279 to R281). -/
theorem BlockInv.configure {s : State} (h : BlockInv s) (hb : ¬ s.busy = true) (base len timeout : BitVec 32) :
    BlockInv { s with srcBase := base, srcLen := len, timeoutMs := timeout } :=
  { h with transfer := fun hb' => absurd hb' hb }

/-! ## BUSY in the invariant -/

theorem busy_eq_true_iff (s : State) :
    s.busy = true ↔ s.state = .awaitingSend ∨ s.state = .awaitingAck ∨ s.state = .confirmed ∨ s.state = .retry ∨
      s.state = .abandoned := by
  cases hs : s.state <;> simp [State.busy, ArqState.busy, hs]

/-- While BUSY nothing of an ended transfer is recorded (rules R33 to R36). -/
theorem BlockInv.no_result_while_busy {s : State} (h : BlockInv s) (hb : s.busy = true) :
    s.errCode = 0 ∧ s.errState = .idle ∧ s.bytes = 0 ∧ s.abandoned = false ∧ s.irqPend = false := by
  have running : s.state ≠ .done ∧ s.state ≠ .error := by
    rcases (busy_eq_true_iff s).mp hb with hs | hs | hs | hs | hs <;> simp [hs]
  have code : s.errCode = 0 := by_contra fun hc => running.2 (h.errorCode.mpr hc)
  refine ⟨code, ?_, by_contra fun hc => running.1 (h.bytesDone hc),
    Bool.eq_false_iff.mpr fun hc => running.1 (h.abandonedDone hc), (h.transfer hb).noIrq⟩
  simpa [code, errorTakenIn] using h.errorSource

/-! ## The ends of a transfer -/

/-- The fatal entry while BUSY keeps the invariant wherever rule R301 lets its code be taken. -/
theorem BlockInv.fatal {s : State} (h : BlockInv s) (hb : s.busy = true) (code : BitVec 4) (hc : code ≠ 0)
    (taken : errorTakenIn code s.state = true) : BlockInv (s.fatal code) := by
  obtain ⟨-, -, bytes, abandoned, -⟩ := h.no_result_while_busy hb
  exact { h with
    sending := nofun, offered := by simp, resting := nofun
    errorCode := by simpa [State.fatal] using hc
    errorSource := taken
    bytesDone := by simp [bytes], abandonedDone := by simp [abandoned], irqEnded := by simp
    transfer := nofun }

/-- complete() from CONFIRMED or ABANDONED, whatever becomes of SEQ, OFFSET and the ABANDONED flag (rules R202, R203 and
R205). -/
theorem BlockInv.complete {s : State} (h : BlockInv s) (hs : s.state = .confirmed ∨ s.state = .abandoned)
    (seq : BitVec 16) (offset : BitVec 32) (flag : Bool) (out : Outputs) :
    BlockInv { s with seq := seq, offset := offset, abandoned := flag, out := out }.complete := by
  have hb : s.busy = true := by rw [busy_eq_true_iff]; tauto
  obtain ⟨code, -, -, -, -⟩ := h.no_result_while_busy hb
  exact { h with
    sending := nofun, offered := fun _ => h.offered (by tauto), resting := nofun
    errorCode := by simp [code]
    bytesDone := by simp, abandonedDone := by simp, irqEnded := by simp
    transfer := nofun }

/-- A START that its check rejects (rules R275, R276 and R304). -/
theorem BlockInv.rejected_start {s : State} (h : BlockInv s) (hb : ¬ s.busy = true) (hc : s.check ≠ 0) :
    BlockInv (s.startInit.fatal s.check) := by
  have idle : s.state = .idle ∨ s.state = .done ∨ s.state = .error := by
    rw [busy_eq_true_iff] at hb
    cases hs : s.state <;> simp_all
  have taken : errorTakenIn s.check s.state = true := by
    rcases check_cases s with ⟨e, -⟩ | ⟨e, -⟩ | ⟨e, -⟩ | ⟨e, -⟩
    · simpa [e, errorTakenIn, or_assoc] using idle
    · simpa [e, errorTakenIn, or_assoc] using idle
    · simpa [e, errorTakenIn, or_assoc] using idle
    · exact absurd e hc
  exact { h with
    indexLe := by simp, notBoth := nofun, pending := nofun, ready := nofun
    sending := nofun, offered := by simp, resting := nofun
    errorCode := by simpa [State.fatal] using hc
    errorSource := taken
    bytesDone := by simp, abandonedDone := by simp, irqEnded := by simp
    attempts := by simp
    transfer := nofun }

/-- After a reset the invariant holds with any parameters and packet buffer that it held with before (rules R57 and
R341). -/
theorem BlockInv.of_reset {p : Params} {m : Memory} (legal : p.Legal) (form : m.wf) (size : m.within p.packetSize)
    (inputs : List Sample) (cycle : Nat) (out : Outputs) :
    BlockInv { State.reset with pktBuf := m, params := p, inputs := inputs, cycle := cycle, out := out } where
  legal := legal
  bufferForm := form
  bufferSize := size
  indexLe := Nat.le_refl _
  notBoth := nofun
  pending := nofun
  ready := nofun
  sending := nofun
  offered := by simp [State.reset]
  resting := fun _ => ⟨rfl, rfl⟩
  errorCode := by simp [State.reset]
  errorSource := rfl
  bytesDone := fun h => absurd rfl h
  abandonedDone := nofun
  irqEnded := nofun
  attempts := Nat.zero_le _
  transfer := nofun

/-! ## Moves among the states that offer a packet -/

/-- From a state with the packet ready to any of the states that wait for it or follow it, with the retry counters and
the timer in their ranges there (rules R29, R37, R200 and R241). -/
theorem BlockInv.move {s : State} (h : BlockInv s) (hb : s.busy = true) (ready : s.pktReady = true) (st : ArqState)
    (attempts : BitVec 16) (retx : BitVec 32) (timer : BitVec 31) (out : Outputs)
    (target : st = .awaitingAck ∨ st = .confirmed ∨ st = .retry ∨ st = .abandoned)
    (notLast : s.isLast = false → attempts = 0)
    (budget : st ≠ .abandoned → attempts.toNat ≤ s.params.lastRetryLimit)
    (exhausted : st = .abandoned → s.isLast = true ∧ attempts.toNat = s.params.lastRetryLimit + 1)
    (range : st = .awaitingAck → 1 ≤ timer.toNat ∧ timer.toNat ≤ s.timeoutMs.toNat) :
    BlockInv { s with state := st, lastAttempts := attempts, retx := retx, timer := timer, out := out } := by
  obtain ⟨code, -, bytes, abandoned, irq⟩ := h.no_result_while_busy hb
  have counted : attempts.toNat ≤ s.params.lastRetryLimit + 1 := by
    by_cases hst : st = .abandoned
    · exact (exhausted hst).2.le
    · exact Nat.le_succ_of_le (budget hst)
  exact { h with
    sending := fun _ => .inr ready
    offered := fun _ => ready
    resting := fun (hst : st = .idle) => by simp [hst] at target
    errorCode := by rcases target with rfl | rfl | rfl | rfl <;> simp [code]
    bytesDone := fun hc => absurd bytes hc
    abandonedDone := by simp [abandoned]
    irqEnded := by simp [irq]
    attempts := counted
    transfer := fun _ => { h.transfer hb with
      notLast := notLast, budget := budget, exhausted := exhausted, timerRange := range } }

/-- A transmit completion: the full timeout is at least one tick (rules R193, R194, R241 and R275). -/
theorem BlockInv.awaitAck {s : State} (h : BlockInv s) (hs : s.state = .awaitingSend ∨ s.state = .retry)
    (ready : s.pktReady = true) (out : Outputs) : BlockInv { s with out := out }.awaitAck := by
  have hb : s.busy = true := by rw [busy_eq_true_iff]; tauto
  have live : s.state ≠ .abandoned := by rcases hs with hs | hs <;> simp [hs]
  obtain ⟨positive, small⟩ := (h.transfer hb).timeAccepted
  have load := timerLoad_toNat s.timeoutMs small
  exact h.move hb ready .awaitingAck s.lastAttempts s.retx (timerLoad s.timeoutMs) out (.inl rfl)
    (h.transfer hb).notLast (fun _ => (h.transfer hb).budget live) nofun (fun _ => by omega)

/-- What the invariant says in AWAITING_ACK. -/
theorem BlockInv.while_awaiting_ack {s : State} (h : BlockInv s) (hs : s.state = .awaitingAck) :
    s.busy = true ∧ s.pktReady = true ∧ s.lastAttempts.toNat ≤ s.params.lastRetryLimit ∧ Transfer s := by
  have hb : s.busy = true := by simp [busy_eq_true_iff, hs]
  exact ⟨hb, h.offered (.inl hs), (h.transfer hb).budget (by simp [hs]), h.transfer hb⟩

/-- A matching acknowledgment (rule R198). -/
theorem BlockInv.accept {s : State} (h : BlockInv s) (hs : s.state = .awaitingAck) : BlockInv s.accept := by
  obtain ⟨hb, ready, budget, transfer⟩ := h.while_awaiting_ack hs
  exact h.move hb ready .confirmed s.lastAttempts s.retx s.timer s.accept.out (by simp) transfer.notLast
    (fun _ => budget) nofun nofun

/-- A negative outcome (rule R200), whatever TIMER and the outputs are: a count that exceeds the limit exceeds it by
one. -/
theorem BlockInv.negative {s : State} (h : BlockInv s) (hs : s.state = .awaitingAck) (timer : BitVec 31)
    (out : Outputs) : BlockInv { s with timer := timer, out := out }.negative := by
  obtain ⟨hb, ready, budget, transfer⟩ := h.while_awaiting_ack hs
  have limit := h.legal.1.2.2
  have counted : (sat 16 (s.lastAttempts.toNat + 1)).toNat = s.lastAttempts.toNat + 1 := sat_succ _ (by omega)
  rw [negative_of_timer_out]
  rcases negative_cases s with ⟨last, e⟩ | ⟨last, within, e⟩ | ⟨last, beyond, e⟩ <;> rw [e]
  · exact h.move hb ready .retry s.lastAttempts _ timer out (by simp) transfer.notLast (fun _ => budget) nofun nofun
  · exact h.move hb ready .retry _ _ timer out (by simp) (by simp [last]) (fun _ => within) nofun nofun
  · exact h.move hb ready .abandoned (sat 16 (s.lastAttempts.toNat + 1)) s.retx timer out (by simp) (by simp [last])
      (fun hc => absurd rfl hc) (fun _ => ⟨last, by omega⟩) nofun

/-- A tick with time left (rule R242). -/
theorem BlockInv.tick {s : State} (h : BlockInv s) (hs : s.state = .awaitingAck) (left : 1 < s.timer.toNat) :
    BlockInv { s with timer := s.timer - 1 } := by
  obtain ⟨hb, ready, budget, transfer⟩ := h.while_awaiting_ack hs
  have range := transfer.timerRange hs
  have kept := h.move hb ready .awaitingAck s.lastAttempts s.retx (s.timer - 1) s.out (by simp) transfer.notLast
    (fun _ => budget) nofun (fun _ => by bv_omega)
  rwa [← hs] at kept

/-! ## The framer -/

/-- A frame has at most PAYLOAD_SIZE payload bytes (rules R162 and R163). -/
theorem frameLenAt_le (p : Params) (offset len : Nat) :
    frameLenAt p offset len (isLastAt p offset len) ≤ p.payloadSize := by
  by_cases hl : len ≤ offset + p.payloadSize
  · simp [frameLenAt, isLastAt, hl]; omega
  · simp [frameLenAt, isLastAt, hl]

/-- What holds where frame_setup() is called, for the frame that SEQ and OFFSET name (rules R161, R202 and R275). -/
structure FrameDue (s : State) : Prop where
  legal         : s.params.Legal
  offsetOfSeq   : s.offset.toNat = s.seq.toNat * s.params.payloadSize
  offsetLe      : s.offset.toNat ≤ s.srcLen.toNat
  offsetLt      : s.srcLen ≠ 0 → s.offset.toNat < s.srcLen.toNat
  lenAccepted   : s.srcLen.toNat ≤ s.params.maxLen
  rangeAccepted : s.srcBase.toNat + s.srcLen.toNat ≤ 2 ^ 32
  timeAccepted  : 1 ≤ s.timeoutMs.toNat ∧ s.timeoutMs.toNat < 2 ^ 31
  noResult      : s.errCode = 0 ∧ s.errState = .idle ∧ s.bytes = 0 ∧ s.abandoned = false ∧ s.irqPend = false

/-- Frame setup establishes the invariant: the fresh buffer holds the header and zeros (rules R161 to R165). -/
theorem FrameDue.frameSetup {s : State} (h : FrameDue s) : BlockInv s.frameSetup := by
  obtain ⟨code, source, bytes, abandoned, irq⟩ := h.noResult
  have short := frameLenAt_le s.params s.offset.toNat s.srcLen.toNat
  have length : (s.frameSetup).frameLen.toNat =
      frameLenAt s.params s.offset.toNat s.srcLen.toNat (isLastAt s.params s.offset.toNat s.srcLen.toNat) := by
    rw [State.frameSetup, State.setupFrame_frameLen, BitVec.toNat_ofNat, Nat.mod_eq_of_lt]
    have := h.legal.1.2.1
    omega
  have zero : ∀ i, 3 ≤ i → s.frameSetup.pktBuf.read i = 0 := by
    intro i hi
    simp [State.frameSetup, headerBuffer_read, headerBytes, hi]
  exact {
    legal := h.legal
    bufferForm := headerBuffer_wf _ _
    bufferSize := headerBuffer_within _ _ _ (Nat.le_add_right_of_le h.legal.2.1)
    indexLe := Nat.zero_le _
    notBoth := by simp [State.frameSetup]
    pending := by simp [State.frameSetup, BitVec.toNat_eq]; omega
    ready := fun hr => (beq_iff_eq.mp hr).symm
    sending := fun _ => by simp [State.frameSetup]; tauto
    offered := by simp [State.frameSetup]
    resting := nofun
    errorCode := by simp [State.frameSetup, code]
    errorSource := by simp [State.frameSetup, code, source, errorTakenIn]
    bytesDone := fun hc => absurd bytes hc
    abandonedDone := by simp [State.frameSetup, abandoned]
    irqEnded := by simp [State.frameSetup, irq]
    attempts := Nat.zero_le _
    transfer := fun _ => {
      offsetOfSeq := h.offsetOfSeq, offsetLe := h.offsetLe, offsetLt := h.offsetLt, lastFlag := rfl
      frameLength := length
      lenAccepted := h.lenAccepted, rangeAccepted := h.rangeAccepted, timeAccepted := h.timeAccepted
      notLast := fun _ => rfl
      budget := fun _ => Nat.zero_le _
      exhausted := nofun
      noIrq := irq
      timerRange := nofun
      header := fun i _ => headerBuffer_read _ _ i
      headerPad := fun i hi _ => zero i hi
      zeroPad := fun i _ hi => zero i (h.legal.2.1.trans (Nat.le_of_add_right_le hi)) } }

/-- A START that its check accepts sets up frame 0 (rules R274 to R276). -/
theorem frameDue_of_start (s : State) (legal : s.params.Legal) (hc : s.check = 0) : FrameDue s.startInit := by
  rcases check_cases s with ⟨e, -⟩ | ⟨e, -⟩ | ⟨e, -⟩ | ⟨-, timeout, len, range⟩
  · simp [hc] at e
  · simp [hc] at e
  · simp [hc] at e
  · exact {
      legal := legal, offsetOfSeq := by simp, offsetLe := by simp, lenAccepted := len, rangeAccepted := range
      offsetLt := fun hn => Nat.pos_of_ne_zero fun h0 => hn (BitVec.eq_of_toNat_eq h0)
      timeAccepted := (sint32_pos _).mp timeout
      noResult := ⟨rfl, rfl, rfl, rfl, rfl⟩ }

/-- After the confirmation of a frame that is not the last, the next frame has its number and its bytes, without a wrap
of SEQ or OFFSET (rules R58, R202 and R275). -/
theorem frameDue_of_confirm {s : State} (h : BlockInv s) (hs : s.state = .confirmed) (hl : s.isLast = false) :
    FrameDue { s with seq := nextSeq s.params s.seq,
                      offset := BitVec.ofNat 32 (s.offset.toNat + s.params.payloadSize) } := by
  have hb : s.busy = true := by simp [busy_eq_true_iff, hs]
  have transfer := h.transfer hb
  have more : s.offset.toNat + s.params.payloadSize < s.srcLen.toNat := by
    simpa [isLastAt, hl] using transfer.lastFlag
  have offset : (BitVec.ofNat 32 (s.offset.toNat + s.params.payloadSize)).toNat =
      s.offset.toNat + s.params.payloadSize := by
    rw [BitVec.toNat_ofNat, Nat.mod_eq_of_lt (more.trans s.srcLen.isLt)]
  have product : (s.seq.toNat + 1) * s.params.payloadSize = s.offset.toNat + s.params.payloadSize := by
    rw [transfer.offsetOfSeq, Nat.succ_mul]
  have seq : (nextSeq s.params s.seq).toNat = s.seq.toNat + 1 := by
    rw [nextSeq_toNat _ _ h.legal, Nat.mod_eq_of_lt]
    apply Nat.lt_of_mul_lt_mul_right (a := s.params.payloadSize)
    rw [product]
    exact more.trans_le transfer.lenAccepted
  exact {
    legal := h.legal
    offsetOfSeq := by rw [offset, seq, product]
    offsetLe := by rw [offset]; exact more.le
    offsetLt := fun _ => by rw [offset]; exact more
    lenAccepted := transfer.lenAccepted, rangeAccepted := transfer.rangeAccepted
    timeAccepted := transfer.timeAccepted
    noResult := h.no_result_while_busy hb }

/-- MEM_BYTE's index while a byte is pending: the last byte, and only it, ends the reading (rule R167). -/
theorem advanceIndex_of_pending {s : State} (pend : s.memPend = true) (ready : s.pktReady = false) :
    s.advanceIndex =
      { s with memIdx := BitVec.ofNat 11 (s.memIdx.toNat + 1),
               memPend := BitVec.ofNat 11 (s.memIdx.toNat + 1) != s.frameLen,
               pktReady := BitVec.ofNat 11 (s.memIdx.toNat + 1) == s.frameLen } := by
  obtain ⟨⟩ := s
  subst pend ready
  simp only [State.advanceIndex]
  split <;> simp_all

/-- A payload byte keeps the invariant: it is written behind the header, in front of the zero pad (rules R37, R165 and
R167). -/
theorem BlockInv.byte_stored {s : State} (h : BlockInv s) (req : s.memReq = true) (b : Byte) :
    BlockInv { s with pktBuf := s.pktBuf.write (s.params.headerSize + s.memIdx.toNat) b }.advanceIndex := by
  obtain ⟨hs, pend⟩ : s.state = .awaitingSend ∧ s.memPend = true := by simpa [State.memReq] using req
  have hb : s.busy = true := by simp [busy_eq_true_iff, hs]
  have transfer := h.transfer hb
  have below := h.pending pend
  have next : (BitVec.ofNat 11 (s.memIdx.toNat + 1)).toNat = s.memIdx.toNat + 1 := by
    rw [BitVec.toNat_ofNat, Nat.mod_eq_of_lt (by omega)]
  have fits : s.frameLen.toNat ≤ s.params.payloadSize := by
    rw [transfer.frameLength, transfer.lastFlag]
    exact frameLenAt_le ..
  have other : ∀ i, i ≠ s.params.headerSize + s.memIdx.toNat →
      (s.pktBuf.write (s.params.headerSize + s.memIdx.toNat) b).read i = s.pktBuf.read i :=
    fun i hi => Memory.read_write_other _ _ _ _ h.bufferForm hi
  have headerSize := h.legal.2.1
  have room : s.params.headerSize + s.memIdx.toNat < s.params.packetSize := by
    unfold Params.packetSize
    omega
  rw [advanceIndex_of_pending (by exact pend) (by exact h.notBoth pend)]
  exact { h with
    bufferForm := Memory.write_wf _ _ _ h.bufferForm
    bufferSize := Memory.write_within _ _ _ _ h.bufferSize room
    indexLe := next.trans_le below
    notBoth := by simp
    pending := by simp [BitVec.toNat_eq, next]; omega
    ready := by simp
    sending := fun _ => by simp; tauto
    offered := by simp [hs]
    resting := by simp [hs]
    transfer := fun _ => { transfer with
      header := fun i hi => by rw [other i (by omega)]; exact transfer.header i hi
      headerPad := fun i hi (hp : i < s.params.headerSize) => by
        rw [other i (by omega)]
        exact transfer.headerPad i hi hp
      zeroPad := fun i hi (hp : s.params.headerSize + (BitVec.ofNat 11 (s.memIdx.toNat + 1)).toNat ≤ i) => by
        rw [next] at hp
        rw [other i (by omega)]
        exact transfer.zeroPad i hi (by omega) } }

end Sys2Proof.Machine
end

section
/-! The invariant is kept by each of the thirty operations, and so by every step, which runs them one after another. -/

namespace Sys2Proof.Machine

/-- Settles O46: `BlockInv.of_reset` at the default parameters and the empty buffer. -/
theorem resetStateMeetsTheInvariant : Obligations.ResetStateMeetsTheInvariant :=
  BlockInv.of_reset (p := {}) (m := []) (by decide) ⟨List.Pairwise.nil, nofun⟩ nofun [] 0 Outputs.reset

/-- An operation with a guard keeps the invariant if its update does wherever the guard holds (rule R123, log 18). -/
theorem BlockInv.of_guarded {s t update : State} {guard : Bool} (h : BlockInv s)
    (kept : guard = true → BlockInv update)
    (e : (Host.Outcome.next (if guard then update else s) : Host.Outcome State Fault Refusal) = .next t) :
    BlockInv t := by
  obtain rfl := Host.Outcome.next.inj e
  split
  · exact kept ‹_›
  · exact h

/-- A write of a configuration register, ignored while BUSY (rules R272 and R279 to R281). -/
theorem BlockInv.of_configuration_write {s t : State} (h : BlockInv s) (base len timeout : BitVec 32)
    (e : (Host.Outcome.next (if s.busy then s else { s with srcBase := base, srcLen := len, timeoutMs := timeout }) :
      Host.Outcome State Fault Refusal) = .next t) : BlockInv t := by
  obtain rfl := Host.Outcome.next.inj e
  split
  · exact h
  · exact h.configure ‹_› base len timeout

/-- START: ignored while BUSY, rejected, or the setup of frame 0 (rules R274 to R277). -/
theorem BlockInv.of_start {s t : State} (h : BlockInv s) (w : BitVec 32)
    (e : execStart w s = .next t) : BlockInv t := by
  have enabled : BlockInv { s with irqEn := w.getLsbD 1 } := h.of_unread_fields ..
  rw [execStart_eq] at e
  obtain rfl := Host.Outcome.next.inj e
  split_ifs with hb hc
  · exact enabled
  · exact (frameDue_of_start { s with irqEn := w.getLsbD 1 } h.legal hc).frameSetup
  · exact enabled.rejected_start hb hc

/-- MEM_BYTE, where it does not stop (rule R167). -/
theorem BlockInv.of_memByte {s t : State} (h : BlockInv s) (b : Byte)
    (e : execMemByte b s = .next t) : BlockInv t := by
  by_cases req : s.memReq = true
  · rw [execMemByte_in_window b s req] at e
    split at e
    · obtain rfl := Host.Outcome.next.inj e
      exact h.byte_stored req b
    · cases e
  · rw [execMemByte, if_neg req] at e
    obtain rfl := Host.Outcome.next.inj e
    exact h

/-- CONFIRM: the end of the transfer, or the setup of the next frame (rule R202). -/
theorem BlockInv.of_confirm {s t : State} (h : BlockInv s) (e : execConfirm s = .next t) :
    BlockInv t := by
  refine h.of_guarded (fun hs => ?_) e
  have hs : s.state = .confirmed := by simpa using hs
  split
  · exact h.complete (.inl hs) _ _ s.abandoned s.out
  · exact (frameDue_of_confirm h hs (Bool.eq_false_iff.mpr ‹_›)).frameSetup

/-- The fatal error of an output port: TX_FAIL where a packet is on offer (rules R301 and R305). -/
theorem BlockInv.txFail {s : State} (h : BlockInv s) (valid : s.txValid = true) : BlockInv (s.fatal 4) := by
  have hs : s.state = .awaitingSend ∨ s.state = .retry := by
    simp only [State.txValid, Bool.or_eq_true, Bool.and_eq_true, beq_iff_eq] at valid
    tauto
  exact h.fatal (by rw [busy_eq_true_iff]; tauto) 4 (by decide) (by simpa [errorTakenIn] using hs)

theorem rxReady_iff (s : State) : s.rxReady = true ↔ s.state = .awaitingAck := by simp [State.rxReady]

/-- Settles O47: every operation is one of the shared updates under its guard. -/
theorem everyOperationKeepsTheInvariant : Obligations.EveryOperationKeepsTheInvariant := by
  intro i s t h e
  cases i with
  | csrRd off w => cases e; exact h.of_unread_fields ..
  | csrWrCtrl w => cases e; exact h.of_unread_fields ..
  | start w => exact h.of_start w e
  | csrWrStatus w => cases e; exact h.clear_irqPend _
  | csrWrSrcBase w => exact h.of_configuration_write w s.srcLen s.timeoutMs e
  | csrWrSrcLen w => exact h.of_configuration_write s.srcBase w s.timeoutMs e
  | csrWrTimeout w => exact h.of_configuration_write s.srcBase s.srcLen w e
  | csrWrRo off w => cases e; exact h
  | reset => cases e; exact .of_reset h.legal h.bufferForm h.bufferSize ..
  | memByte b => exact h.of_memByte b e
  | memErr =>
    refine h.of_guarded (fun req => ?_) e
    have hs : s.state = .awaitingSend := by
      simp only [State.memReq, Bool.and_eq_true, beq_iff_eq] at req
      exact req.1
    exact h.fatal (by simp [busy_eq_true_iff, hs]) 6 (by decide) (by simp [errorTakenIn, hs])
  | txDoneFirst =>
    refine h.of_guarded (fun hg => ?_) e
    simp only [Bool.and_eq_true, beq_iff_eq] at hg
    exact h.awaitAck (.inl hg.1) hg.2 _
  | txDoneRetry =>
    refine h.of_guarded (fun hg => ?_) e
    have hs : s.state = .retry := by simpa using hg
    exact h.awaitAck (.inr hs) (h.offered (by simp [hs])) _
  | txErr => exact h.of_guarded h.txFail e
  | rxAckMatch d =>
    refine h.of_guarded (fun hg => ?_) e
    exact h.accept ((rxReady_iff s).mp (Bool.and_eq_true_iff.mp hg).1)
  | rxMismatch d =>
    refine h.of_guarded (fun hg => ?_) e
    exact h.negative ((rxReady_iff s).mp (Bool.and_eq_true_iff.mp hg).1) s.timer s.out
  | rxErr =>
    refine h.of_guarded (fun hg => ?_) e
    have hs := (rxReady_iff s).mp hg
    exact h.fatal (h.while_awaiting_ack hs).1 5 (by decide) (by simp [errorTakenIn, hs])
  | msTick =>
    refine h.of_guarded (fun hg => ?_) e
    simp only [Bool.and_eq_true, beq_iff_eq, decide_eq_true_eq] at hg
    exact h.tick hg.1 hg.2
  | tickExpire =>
    refine h.of_guarded (fun hg => ?_) e
    simp only [Bool.and_eq_true, beq_iff_eq] at hg
    exact h.negative hg.1 0 _
  | tickElapsed => exact h.of_guarded (fun _ => h.of_unread_fields ..) e
  | confirm => exact h.of_confirm e
  | abandon =>
    refine h.of_guarded (fun hg => ?_) e
    exact h.complete (.inr (by simpa using hg)) s.seq s.offset true _
  | dataPkt seq last payload => exact h.of_guarded (fun _ => h.of_unread_fields ..) e
  | ackPkt ackv =>
    refine h.of_guarded (fun hg => ?_) e
    have hs := (rxReady_iff s).mp hg
    split
    · exact h.accept hs
    · exact h.negative hs s.timer s.out
  | evSent seq => cases e; exact h.of_unread_fields ..
  | evTimeout seq => cases e; exact h.of_unread_fields ..
  | evResend seq => cases e; exact h.of_unread_fields ..
  | evAckAccepted seq => cases e; exact h.of_unread_fields ..
  | evGiveUp seq => cases e; exact h.of_unread_fields ..
  | evFatal code => cases e; exact h.of_unread_fields ..

/-- A lane of the cycle keeps the invariant, with an operation or without. -/
theorem BlockInv.of_lane {s t : State} (h : BlockInv s) {o : Option Instr} (e : runOp o s = .next t) :
    BlockInv t := by
  cases o with
  | none =>
    obtain rfl := Host.Outcome.next.inj e
    exact h
  | some i => exact everyOperationKeepsTheInvariant i s t h e

/-- Settles O48: a step opens the cycle and runs operations in sequence, and each keeps the invariant. -/
theorem everyStepKeepsTheInvariant : Obligations.EveryStepKeepsTheInvariant := by
  intro s t h e
  have opened := h.openCycle s.sample
  unfold step runCycle at e
  split at e
  · exact everyOperationKeepsTheInvariant .reset _ t opened e
  · obtain ⟨s1, host, e⟩ := andThen_eq_next.mp e
    obtain ⟨s2, elapsed, arq⟩ := andThen_eq_next.mp e
    exact ((opened.of_lane host).of_lane elapsed).of_lane arq

end Sys2Proof.Machine
end

section
/-! What a move of the state machine does to single fields: SEQ, the configuration registers, IRQ_PEND, TIMER, RETX and
the event port; and the safety statements, each read off from the cases of a step. -/

namespace Sys2Proof.Machine

/-! ## Fields after the shared updates that branch -/

/-- The next index writes the framer's progress and nothing else. -/
theorem advanceIndex_frame (s : State) :
    s.advanceIndex =
      { s with memIdx := s.advanceIndex.memIdx, memPend := s.advanceIndex.memPend,
               pktReady := s.advanceIndex.pktReady } := by
  unfold State.advanceIndex
  dsimp only
  split <;> rfl

@[simp] theorem State.advanceIndex_state (s : State) : s.advanceIndex.state = s.state := by
  rw [advanceIndex_frame]
@[simp] theorem State.advanceIndex_seq (s : State) : s.advanceIndex.seq = s.seq := by
  rw [advanceIndex_frame]
@[simp] theorem State.advanceIndex_srcBase (s : State) : s.advanceIndex.srcBase = s.srcBase := by
  rw [advanceIndex_frame]
@[simp] theorem State.advanceIndex_srcLen (s : State) : s.advanceIndex.srcLen = s.srcLen := by
  rw [advanceIndex_frame]
@[simp] theorem State.advanceIndex_timeoutMs (s : State) : s.advanceIndex.timeoutMs = s.timeoutMs := by
  rw [advanceIndex_frame]
@[simp] theorem State.advanceIndex_irqPend (s : State) : s.advanceIndex.irqPend = s.irqPend := by
  rw [advanceIndex_frame]
@[simp] theorem State.advanceIndex_retx (s : State) : s.advanceIndex.retx = s.retx := by
  rw [advanceIndex_frame]
@[simp] theorem State.advanceIndex_out (s : State) : s.advanceIndex.out = s.out := by
  rw [advanceIndex_frame]

@[simp] theorem State.negative_seq (s : State) : s.negative.seq = s.seq := by
  rw [negative_frame]
@[simp] theorem State.negative_srcBase (s : State) : s.negative.srcBase = s.srcBase := by
  rw [negative_frame]
@[simp] theorem State.negative_srcLen (s : State) : s.negative.srcLen = s.srcLen := by
  rw [negative_frame]
@[simp] theorem State.negative_timeoutMs (s : State) : s.negative.timeoutMs = s.timeoutMs := by
  rw [negative_frame]
@[simp] theorem State.negative_irqPend (s : State) : s.negative.irqPend = s.irqPend := by
  rw [negative_frame]
@[simp] theorem State.negative_out (s : State) : s.negative.out = s.out := by
  rw [negative_frame]

/-- A negative outcome ends in RETRY or ABANDONED, which are BUSY (rule R200). -/
theorem State.negative_busy (s : State) : s.negative.busy = true := by
  rcases negative_cases s with ⟨_, e⟩ | ⟨_, _, e⟩ | ⟨_, _, e⟩ <;> rw [e] <;> rfl

@[simp] theorem State.frameSetup_state (s : State) : s.frameSetup.state = .awaitingSend := rfl
@[simp] theorem State.frameSetup_seq (s : State) : s.frameSetup.seq = s.seq := rfl
@[simp] theorem State.frameSetup_srcBase (s : State) : s.frameSetup.srcBase = s.srcBase := rfl
@[simp] theorem State.frameSetup_srcLen (s : State) : s.frameSetup.srcLen = s.srcLen := rfl
@[simp] theorem State.frameSetup_timeoutMs (s : State) : s.frameSetup.timeoutMs = s.timeoutMs := rfl
@[simp] theorem State.frameSetup_irqPend (s : State) : s.frameSetup.irqPend = s.irqPend := rfl
@[simp] theorem State.frameSetup_retx (s : State) : s.frameSetup.retx = s.retx := rfl
@[simp] theorem State.frameSetup_out (s : State) : s.frameSetup.out = s.out := rfl

/-! ## Single fields over a move -/

/-- CONFIRMED never waits: its operation is selected by the state alone (rule R119). -/
theorem arqOp_confirmed (x : Sample) (s : State) (hs : s.state = .confirmed) : arqOp x s = some .confirm := by
  rw [arqOp_eq, hs]

/-- SEQ moves on in CONFIRMED and is kept by every other move (rules R26 and R209). -/
theorem Move.seq {s u t : State} {x : Sample} (m : Move s u x t) :
    (s.state = .confirmed ∧ t.seq = nextSeq u.params u.seq) ∨ (s.state ≠ .confirmed ∧ t.seq = u.seq) := by
  cases m with
  | hold h => exact .inr ⟨fun hs => by simp [arqOp_confirmed x s hs] at h, rfl⟩
  | nextFrame hs _ | finished hs _ => exact .inl ⟨hs, rfl⟩
  | txFail hs _ => exact .inr ⟨by rcases hs with ⟨hs, _⟩ | hs <;> simp [hs], rfl⟩
  | memFail hs | byte hs | sent hs | resent hs | rxFail hs | accepted hs | mismatch hs | tick hs | expired hs
  | gaveUp hs => exact .inr ⟨by simp [hs], by simp⟩

/-- No move writes a configuration register (rule R38). -/
theorem Move.configuration {s u t : State} {x : Sample} (m : Move s u x t) :
    t.srcBase = u.srcBase ∧ t.srcLen = u.srcLen ∧ t.timeoutMs = u.timeoutMs := by
  cases m <;> simp

/-- A move ends the transfer and sets IRQ_PEND, or goes on BUSY and leaves IRQ_PEND as it is (rules R36, R205 and
R304). -/
theorem Move.ends_or_goes_on {s u t : State} {x : Sample} (m : Move s u x t) (hu : u.busy = true) :
    ((t.state = .done ∨ t.state = .error) ∧ t.irqPend = true) ∨ (t.busy = true ∧ t.irqPend = u.irqPend) := by
  cases m with
  | memFail | txFail | rxFail => exact .inl ⟨.inr rfl, rfl⟩
  | finished | gaveUp => exact .inl ⟨.inl rfl, rfl⟩
  | hold | tick => exact .inr ⟨hu, rfl⟩
  | byte => exact .inr ⟨by simpa [State.busy] using hu, by simp⟩
  | sent | resent | accepted | nextFrame => exact .inr ⟨rfl, rfl⟩
  | mismatch | expired => exact .inr ⟨State.negative_busy _, by simp⟩

/-- AWAITING_ACK is entered by a transmit completion alone, which arms the timer (rules R193, R194 and R241). -/
theorem Move.timer_of_entry {s u t : State} {x : Sample} (m : Move s u x t) (hu : u.state = s.state)
    (ht : t.state = .awaitingAck) (hs : s.state ≠ .awaitingAck) : t.timer = timerLoad u.timeoutMs := by
  cases m with
  | sent | resent => rfl
  | hold => exact absurd (hu ▸ ht) hs
  | byte => exact absurd (by simpa [hu] using ht) hs
  | mismatch hs' | tick hs' | expired hs' => exact absurd hs' hs
  | memFail | txFail | rxFail | accepted | nextFrame | finished | gaveUp => simp at ht

/-! ## A step that starts not BUSY, and the statements -/

/-- Over a cycle that starts not BUSY without a START, STATE, SEQ and IRQ_PEND change at most by the interrupt clear; a
START sets SEQ to 0, and its check decides between ERROR with the interrupt and a first frame without it (rules R276,
R278 and R304). -/
theorem not_busy_step {s t : State} (hb : s.busy = false)
    (e : runOp (hostOp s.sample) (s.openCycle s.sample) = .next t) :
    (commandsStart s.sample = false ∧ t.state = s.state ∧ t.seq = s.seq ∧
      t.irqPend = (s.irqPend && !clearsIrq s.sample)) ∨
    (commandsStart s.sample = true ∧ t.seq = 0 ∧
      ((s.check ≠ 0 ∧ t.state = .error ∧ t.irqPend = true) ∨
        (s.check = 0 ∧ t.state = .awaitingSend ∧ t.irqPend = false))) := by
  rcases host_lane_not_busy _ (s.openCycle s.sample) t hb e with
    ⟨noStart, ht⟩ | ⟨start, w, -, ⟨hc, ht⟩ | ⟨hc, ht⟩⟩
  · exact .inl ⟨noStart, by rw [ht]; rfl, by rw [ht]; rfl, by rw [ht]; rfl⟩
  · exact .inr ⟨start, by rw [ht]; rfl, .inl ⟨hc, by rw [ht]; rfl, by rw [ht]; rfl⟩⟩
  · exact .inr ⟨start, by rw [ht]; rfl, .inr ⟨hc, by rw [ht]; rfl, by rw [ht]; rfl⟩⟩

theorem state_ne_of_not_busy {s : State} (hb : s.busy = false) {st : ArqState} (h : st.busy = true) : s.state ≠ st := by
  rintro rfl
  simp [State.busy, h] at hb

/-- Settles O36, by the three kinds of step; a move changes SEQ in CONFIRMED alone. -/
theorem sequenceAdvancesOnlyOnConfirm : Obligations.SequenceAdvancesOnlyOnConfirm := by
  intro s t e
  cases hr : pvRst s.sample.pv with
  | true =>
    rw [step_reset_next s t hr e]
    exact .inr (.inl ⟨rfl, .inl rfl⟩)
  | false =>
    rcases step_cases s t hr e with ⟨hb, e⟩ | ⟨-, u, lanes, m⟩
    · rcases not_busy_step hb e with ⟨-, -, seq, -⟩ | ⟨start, seq, -⟩
      · exact .inr (.inr ⟨seq, state_ne_of_not_busy hb rfl⟩)
      · exact .inr (.inl ⟨seq, .inr ⟨hb, start⟩⟩)
    · rcases m.seq with ⟨hs, seq⟩ | ⟨hs, seq⟩
      · exact .inl ⟨hs, rfl, by rw [seq, lanes.seq, lanes.params]; rfl⟩
      · exact .inr (.inr ⟨seq.trans lanes.seq, hs⟩)

/-- Settles O37: neither the lanes beside it nor the move itself writes a configuration register. -/
theorem configurationHoldsWhileBusy : Obligations.ConfigurationHoldsWhileBusy := by
  intro s t e hb hr
  rcases step_cases s t hr e with ⟨hb', -⟩ | ⟨-, u, lanes, m⟩
  · simp [hb] at hb'
  · obtain ⟨base, len, timeout⟩ := m.configuration
    exact ⟨base.trans lanes.srcBase, len.trans lanes.srcLen, timeout.trans lanes.timeoutMs⟩

/-- Settles O42: the end of a transfer sets IRQ_PEND after the host lane has cleared it, and a BUSY cycle that goes on
leaves what the host lane left. -/
theorem completionInterruptIsNotLost : Obligations.CompletionInterruptIsNotLost := by
  intro s t e
  cases hr : pvRst s.sample.pv with
  | true =>
    rw [step_reset_next s t hr e]
    simp [State.reset]
  | false =>
    rcases step_cases s t hr e with ⟨hb, e⟩ | ⟨hb, u, lanes, m⟩
    · rcases not_busy_step hb e with ⟨start, -, -, irq⟩ | ⟨start, -, ⟨hc, state, irq⟩ | ⟨hc, state, irq⟩⟩
      · cases hk : clearsIrq s.sample <;> simp [hb, start, irq, hk]
      · simpa [hb, start, state, irq] using hc
      · simp [hb, start, hc, state, irq]
    · have hu : u.busy = true := by rw [State.busy, lanes.state]; exact hb
      rcases m.ends_or_goes_on hu with ⟨ended, irq⟩ | ⟨on, irq⟩
      · simp [hb, ended, irq]
      · have running : ¬(t.state = .done ∨ t.state = .error) := by
          rintro (h | h) <;> simp [State.busy, ArqState.busy, h] at on
        cases hk : clearsIrq s.sample <;> simp [hb, running, irq, lanes.irqPend, hk]

/-- Settles O44: a wait begins with a transmit completion, which loads TIMEOUT_MS[30:0]. -/
theorem everyWaitHasTheFullTimeout : Obligations.EveryWaitHasTheFullTimeout := by
  intro s t e ht hs
  cases hr : pvRst s.sample.pv with
  | true =>
    rw [step_reset_next s t hr e] at ht
    cases ht
  | false =>
    rcases step_cases s t hr e with ⟨hb, e⟩ | ⟨-, u, lanes, m⟩
    · rcases not_busy_step hb e with ⟨-, state, -⟩ | ⟨-, -, ⟨-, state, -⟩ | ⟨-, state, -⟩⟩
      · exact absurd (state.symm.trans ht) hs
      · simp [ht] at state
      · simp [ht] at state
    · rw [m.timer_of_entry lanes.state ht hs, lanes.timeoutMs, timerLoad, BitVec.extractLsb'_toNat, Nat.shiftRight_zero]

/-- Settles O14: MEM_BYTE in its window without a byte of the buffer to write. -/
theorem memoryByteStopsBeyondTheBuffer : Obligations.MemoryByteStopsBeyondTheBuffer := by
  intro s b hs hp beyond
  have req : s.memReq = true := by simp [State.memReq, hs, hp]
  exact (execMemByte_in_window b s req).trans (if_neg (Nat.not_lt.mpr beyond))

end Sys2Proof.Machine
end

section
/-! RETX against the RESEND events (rule R248): the account of one step, and its sum over a run that stays BUSY. -/

namespace Sys2Proof.Machine

/-- Whether a state shows an event of the given code, as a number. -/
def State.shows (s : State) (code : BitVec 3) : Nat := if s.out.evValid && s.out.evCode == code then 1 else 0

theorem countEvents_cons (code : BitVec 3) (t : State) (ts : List State) :
    countEvents code (t :: ts) = t.shows code + countEvents code ts := by
  cases h : t.out.evValid && t.out.evCode == code with
  | true => simp [countEvents, State.shows, h, Nat.add_comm]
  | false => simp [countEvents, State.shows, h]

theorem trace_succ {n : Nat} {s t : State} (e : step s = .next t) : trace (n + 1) s = t :: trace n t := by
  simp only [trace, e]

theorem trace_succ_of_stop {n : Nat} {s : State} (e : ∀ t, step s ≠ .next t) : trace (n + 1) s = [] := by
  cases h : step s with
  | next t => exact absurd h (e t)
  | fault r | refused r => simp only [trace, h]

/-- A negative outcome counts a retransmission exactly where it decides one (rule R200). -/
theorem State.negative_retx (s : State) (h : s.retx.toNat + 1 < 2 ^ 32) :
    s.negative.retx.toNat = s.retx.toNat + s.negative.owed := by
  rcases negative_cases s with ⟨_, e⟩ | ⟨_, _, e⟩ | ⟨_, _, e⟩ <;> rw [e]
  · simp [State.toRetry, State.owed, sat_succ _ h]
  · simp [State.toRetry, State.owed, sat_succ _ h]
  · simp [State.owed]

theorem State.negative_retx_le (s : State) : s.negative.retx.toNat ≤ s.retx.toNat + 1 := by
  rcases negative_cases s with ⟨_, e⟩ | ⟨_, _, e⟩ | ⟨_, _, e⟩ <;> rw [e] <;> simp [State.toRetry, sat_toNat]

/-- One move's account: RETX and the debt before it against RETX, the debt and the event after it. -/
theorem Move.resend_account {s u t : State} (lanes : Lanes s u) (m : Move s u s.sample t) (hb : t.busy = true)
    (h : s.retx.toNat + 1 < 2 ^ 32) : t.retx.toNat + s.owed = s.retx.toNat + t.shows 3 + t.owed := by
  have quiet := lanes.evValid
  have state := lanes.state
  have retx := lanes.retx
  cases m with
  | hold | byte | tick => simp [State.owed, State.shows, quiet, state, retx]
  | sent hs | resent hs | accepted hs => simp [State.owed, State.shows, hs, retx]
  | nextFrame hs => simp [State.owed, State.shows, hs, quiet, retx]
  | mismatch hs =>
    rw [State.negative_retx u (by rwa [retx])]
    simp [State.owed, State.shows, hs, quiet, retx]
  | expired hs =>
    rw [State.negative_retx _ (by simpa [retx] using h)]
    simp [State.owed, State.shows, hs, retx]
  | memFail | txFail | rxFail | finished | gaveUp => simp [State.busy, ArqState.busy] at hb

/-- A step from BUSY to BUSY is a move: a reset ends in IDLE. -/
theorem step_busy_move {s t : State} (e : step s = .next t) (hs : s.busy = true) (ht : t.busy = true) :
    ∃ u, Lanes s u ∧ Move s u s.sample t := by
  cases hr : pvRst s.sample.pv with
  | true =>
    rw [step_reset_next s t hr e] at ht
    cases ht
  | false =>
    rcases step_cases s t hr e with ⟨hb, -⟩ | ⟨-, move⟩
    · simp [hs] at hb
    · exact move

/-- A move counts at most one retransmission. -/
theorem Move.retx_le {s u t : State} {x : Sample} (m : Move s u x t) : t.retx.toNat ≤ u.retx.toNat + 1 := by
  cases m with
  | mismatch | expired => exact State.negative_retx_le _
  | _ => simp

/-- The account of a run, with its start as the last state where no step was made. -/
theorem trace_resend_account (n : Nat) (s : State) (h : s.retx.toNat + n < 2 ^ 32)
    (busy : ∀ u ∈ trace n s, u.busy = true) (hs : s.busy = true) :
    ((trace n s).getLastD s).retx.toNat + s.owed =
      s.retx.toNat + countEvents 3 (trace n s) + ((trace n s).getLastD s).owed := by
  induction n generalizing s with
  | zero => rfl
  | succ n ih =>
    by_cases stops : ∀ t, step s ≠ .next t
    · rw [trace_succ_of_stop stops]
      rfl
    · obtain ⟨t, e⟩ := by simpa using stops
      rw [trace_succ e] at busy ⊢
      obtain ⟨ht, rest⟩ := List.forall_mem_cons.mp busy
      obtain ⟨u, lanes, m⟩ := step_busy_move e hs ht
      have first := m.resend_account lanes ht (by omega)
      have bound : t.retx.toNat ≤ s.retx.toNat + 1 := lanes.retx ▸ m.retx_le
      have later := ih t (by omega) rest ht
      rw [List.getLastD_cons, countEvents_cons]
      omega

/-- Settles O55: the account of the run, whose last state is `t`. -/
theorem retxCountsTheResends : Obligations.RetxCountsTheResends := by
  intro n s t h busy hs last
  have account := trace_resend_account n s h busy hs
  rwa [List.getLastD_eq_getLast?, last] at account

end Sys2Proof.Machine
end

section
/-! The frame's own fields after the shared updates that branch: what they leave of the frame, and the framer's index. -/

namespace Sys2Proof.Machine

@[simp] theorem State.advanceIndex_pktBuf (s : State) : s.advanceIndex.pktBuf = s.pktBuf := by
  rw [advanceIndex_frame]
@[simp] theorem State.advanceIndex_params (s : State) : s.advanceIndex.params = s.params := by
  rw [advanceIndex_frame]
@[simp] theorem State.advanceIndex_offset (s : State) : s.advanceIndex.offset = s.offset := by
  rw [advanceIndex_frame]

/-- MEM_IDX moves on by one, whether or not the byte was the frame's last (rule R167). -/
theorem State.advanceIndex_memIdx (s : State) :
    s.advanceIndex.memIdx = BitVec.ofNat 11 (s.memIdx.toNat + 1) := by
  unfold State.advanceIndex
  dsimp only
  split <;> rfl

@[simp] theorem State.negative_memIdx (s : State) : s.negative.memIdx = s.memIdx := by
  rw [negative_frame]
@[simp] theorem State.negative_pktBuf (s : State) : s.negative.pktBuf = s.pktBuf := by
  rw [negative_frame]
@[simp] theorem State.negative_params (s : State) : s.negative.params = s.params := by
  rw [negative_frame]
@[simp] theorem State.negative_offset (s : State) : s.negative.offset = s.offset := by
  rw [negative_frame]

end Sys2Proof.Machine
end

section
/-! The payload of the frame: where its bytes are asked for in source memory (rules R83, R88 and R166), and that the
packet buffer holds what source memory answered there (rules R88, R97 and R112). -/

namespace Sys2Proof.Machine

/-! ## The address of a memory request -/

theorem memReq_iff (s : State) : s.memReq = true ↔ s.state = .awaitingSend ∧ s.memPend = true := by
  simp [State.memReq]

/-- Bytes are asked for during a transfer alone (rule R166). -/
theorem BlockInv.transfer_of_memReq {s : State} (h : BlockInv s) (req : s.memReq = true) : Transfer s :=
  h.transfer ((busy_eq_true_iff s).mpr (.inl ((memReq_iff s).mp req).1))

/-- The bytes of the current frame lie in the source buffer (rules R58 and R163). -/
theorem Transfer.frame_within_source {s : State} (h : Transfer s) :
    s.offset.toNat + s.frameLen.toNat ≤ s.srcLen.toNat := by
  have offset := h.offsetLe
  have length := h.frameLength
  have flag := h.lastFlag
  cases last : s.isLast with
  | true =>
    rw [last, frameLenAt, if_pos rfl] at length
    omega
  | false =>
    rw [last, frameLenAt, if_neg Bool.false_ne_true] at length
    have more : s.offset.toNat + s.params.payloadSize < s.srcLen.toNat := by simpa [isLastAt, last] using flag
    omega

/-- The byte asked for is one of the source buffer's (rules R37, R58 and R166). -/
theorem BlockInv.requested_index_lt {s : State} (h : BlockInv s) (req : s.memReq = true) :
    s.offset.toNat + s.memIdx.toNat < s.srcLen.toNat := by
  have frame := (h.transfer_of_memReq req).frame_within_source
  have index := h.pending ((memReq_iff s).mp req).2
  omega

/-- The address of a request does not wrap: START has accepted no source buffer beyond 2^32 (rules R166 and R275). -/
theorem BlockInv.memAddr_toNat {s : State} (h : BlockInv s) (req : s.memReq = true) :
    s.memAddr.toNat = s.srcBase.toNat + s.offset.toNat + s.memIdx.toNat := by
  have range := (h.transfer_of_memReq req).rangeAccepted
  have index := h.requested_index_lt req
  rw [State.memAddr, BitVec.toNat_ofNat, Nat.mod_eq_of_lt (by omega)]

/-- Settles O15: the address is the sum, and the index in the source buffer that it adds is below SRC_LEN. -/
theorem memoryRequestsStayInTheSourceBuffer : Obligations.MemoryRequestsStayInTheSourceBuffer := by
  intro s h req
  have address := h.memAddr_toNat req
  have index := h.requested_index_lt req
  exact ⟨address, by omega, by omega⟩

/-! ## The frame's bytes in the packet buffer -/

theorem carries_of_not_busy {image : Nat → Byte} {t : State} (ht : t.busy = false) : carries image t := by
  intro hb
  simp [ht] at hb

/-- A frame of which no byte has been read yet. -/
theorem carries_of_no_byte {image : Nat → Byte} {t : State} (ht : t.memIdx = 0) : carries image t := by
  intro _ i hi
  simp [ht] at hi

/-- What `carries` reads of a busy state. -/
theorem carries_of_kept {image : Nat → Byte} {s t : State} (h : carries image s) (hb : s.busy = true)
    (kept : t.memIdx = s.memIdx ∧ t.pktBuf = s.pktBuf ∧ t.params = s.params ∧ t.srcBase = s.srcBase ∧
      t.offset = s.offset) : carries image t := by
  obtain ⟨index, buffer, params, base, offset⟩ := kept
  intro _ i hi
  rw [buffer, params, base, offset]
  exact h hb i (index ▸ hi)

/-- MEM_BYTE adds the byte at the next place of the frame, and leaves the bytes before it (rule R167). -/
theorem carries_byte_stored {image : Nat → Byte} {s : State} (h : carries image s) (form : s.pktBuf.wf)
    (hb : s.busy = true) {b : Byte} (answer : b = image (s.srcBase.toNat + s.offset.toNat + s.memIdx.toNat)) :
    carries image
      { s with pktBuf := s.pktBuf.write (s.params.headerSize + s.memIdx.toNat) b }.advanceIndex := by
  intro _ i hi
  have upTo : i ≤ s.memIdx.toNat := by
    rw [State.advanceIndex_memIdx, BitVec.toNat_ofNat] at hi
    exact Nat.lt_succ_iff.mp (hi.trans_le (Nat.mod_le ..))
  simp only [State.advanceIndex_pktBuf, State.advanceIndex_params, State.advanceIndex_srcBase,
    State.advanceIndex_offset]
  rcases upTo.eq_or_lt with rfl | before
  · rw [Memory.read_write_same _ _ _ form, answer]
  · rw [Memory.read_write_other _ _ _ _ form (by omega)]
    exact h hb i before

/-! ## Over one cycle -/

/-- The two lanes beside the state machine's keep the invariant. -/
theorem BlockInv.of_lanes {s u : State} (h : BlockInv s) (lanes : Lanes s u) : BlockInv u := by
  rw [lanes]
  exact (h.clear_irqPend _).of_unread_fields ..

/-! The lanes leave a memory request as it is at the start of the cycle. -/

theorem Lanes.memReq {s u : State} (lanes : Lanes s u) : u.memReq = s.memReq := by
  rw [State.memReq, lanes.state, lanes.memPend, State.memReq]

theorem Lanes.memAddr {s u : State} (lanes : Lanes s u) : u.memAddr = s.memAddr := by
  rw [State.memAddr, lanes.srcBase, lanes.offset, lanes.memIdx, State.memAddr]

/-- A move ends the transfer, sets up the next frame, adds the byte that memory answered, or leaves the frame as it is. -/
theorem Move.keeps_carries {image : Nat → Byte} {s u t : State} {x : Sample} (m : Move s u x t) (lanes : Lanes s u)
    (inv : BlockInv u) (hb : u.busy = true) (answers : answersFrom image s x) (h : carries image u) :
    carries image t := by
  cases m with
  | memFail | txFail | rxFail | finished | gaveUp => exact carries_of_not_busy rfl
  | nextFrame => exact carries_of_no_byte rfl
  | byte hs pend _ valid _ =>
    have req : s.memReq = true := (memReq_iff s).mpr ⟨hs, pend⟩
    refine carries_byte_stored h inv.bufferForm hb ?_
    rw [answers req valid, ← lanes.memAddr, inv.memAddr_toNat (lanes.memReq.trans req)]
  | hold | sent | resent | accepted | mismatch | tick | expired => exact carries_of_kept h hb (by simp)

/-- A cycle that starts not BUSY leaves no frame, or one of which no byte has been read (rules R271 to R282). -/
theorem carries_of_not_busy_step {image : Nat → Byte} {s t : State} (hb : s.busy = false)
    (e : runOp (hostOp s.sample) (s.openCycle s.sample) = .next t) : carries image t := by
  rcases host_lane_not_busy _ (s.openCycle s.sample) t hb e with ⟨-, ht⟩ | ⟨-, w, -, ⟨-, ht⟩ | ⟨-, ht⟩⟩
  · exact carries_of_not_busy (by rw [ht]; exact hb)
  · exact carries_of_not_busy (by rw [ht]; rfl)
  · exact carries_of_no_byte (by rw [ht]; rfl)

/-- Settles O51, by the three kinds of step: only a move out of a BUSY state meets payload bytes that are in the buffer. -/
theorem payloadIsTheSourceBytes : Obligations.PayloadIsTheSourceBytes := by
  intro image s t inv h answers e
  cases hr : pvRst s.sample.pv with
  | true =>
    rw [step_reset_next s t hr e]
    exact carries_of_not_busy rfl
  | false =>
    rcases step_cases s t hr e with ⟨hb, e⟩ | ⟨hb, u, lanes, m⟩
    · exact carries_of_not_busy_step hb e
    · have opened : carries image u :=
        carries_of_kept h hb ⟨lanes.memIdx, lanes.pktBuf, lanes.params, lanes.srcBase, lanes.offset⟩
      have hu : u.busy = true := by rw [State.busy, lanes.state]; exact hb
      exact m.keeps_carries lanes (inv.of_lanes lanes) hu answers opened

/-! ## The packet on offer -/

/-- Settles O26: the two clauses are the two branches of DATA_PKT, whose datagram is the buffer's bytes. -/
theorem onlyTheOfferedPacketIsSent : Obligations.OnlyTheOfferedPacketIsSent := by
  intro s seq last payload
  constructor
  · intro valid offered
    have guard : (s.txValid && s.packet == headerBytes seq last ++ payload) = true := by simp [valid, offered]
    have sent : exec (.dataPkt seq last payload) s = .next s.send := congrArg Host.Outcome.next (if_pos guard)
    rw [sent, State.send, offered]
    rfl
  · intro other
    have guard : ¬(s.txValid && s.packet == headerBytes seq last ++ payload) = true := by
      rcases other with idle | differs
      · simp [idle]
      · simp [differs]
    exact congrArg Host.Outcome.next (if_neg guard)

end Sys2Proof.Machine
end

section
/-! The decoder and the encoder over all rows of the table (rules R111 to R121), and what the step's own selection says
of the state and of the strobes. -/

namespace Sys2Proof.Machine

/-! ## Words -/

/-- Settles O1: one case for each row of the table, closed by that row's round trip. -/
theorem decodeOfEncodeIsTheOperation : Obligations.DecodeOfEncodeIsTheOperation := by
  intro i
  cases i with
  | csrRd off w => exact Laws.RoundTrip.csrRd off w
  | csrWrCtrl w => exact Laws.RoundTrip.csrWrCtrl w
  | start w => exact Laws.RoundTrip.start w
  | csrWrStatus w => exact Laws.RoundTrip.csrWrStatus w
  | csrWrSrcBase w => exact Laws.RoundTrip.csrWrSrcBase w
  | csrWrSrcLen w => exact Laws.RoundTrip.csrWrSrcLen w
  | csrWrTimeout w => exact Laws.RoundTrip.csrWrTimeout w
  | csrWrRo off w => exact Laws.RoundTrip.csrWrRo off w
  | reset => exact Laws.RoundTrip.reset
  | memByte data => exact Laws.RoundTrip.memByte data
  | memErr => exact Laws.RoundTrip.memErr
  | txDoneFirst => exact Laws.RoundTrip.txDoneFirst
  | txDoneRetry => exact Laws.RoundTrip.txDoneRetry
  | txErr => exact Laws.RoundTrip.txErr
  | rxAckMatch d => exact Laws.RoundTrip.rxAckMatch d
  | rxMismatch d => exact Laws.RoundTrip.rxMismatch d
  | rxErr => exact Laws.RoundTrip.rxErr
  | msTick => exact Laws.RoundTrip.msTick
  | tickExpire => exact Laws.RoundTrip.tickExpire
  | tickElapsed => exact Laws.RoundTrip.tickElapsed
  | confirm => exact Laws.RoundTrip.confirm
  | abandon => exact Laws.RoundTrip.abandon
  | dataPkt seq last payload => exact Laws.RoundTrip.dataPkt seq last payload
  | ackPkt ackv => exact Laws.RoundTrip.ackPkt ackv
  | evSent seq => exact Laws.RoundTrip.evSent seq
  | evTimeout seq => exact Laws.RoundTrip.evTimeout seq
  | evResend seq => exact Laws.RoundTrip.evResend seq
  | evAckAccepted seq => exact Laws.RoundTrip.evAckAccepted seq
  | evGiveUp seq => exact Laws.RoundTrip.evGiveUp seq
  | evFatal code => exact Laws.RoundTrip.evFatal code

/-- Settles O2, on the word's three fields: a read, or a write by its offset. -/
theorem everyAccessWordIsItsEncoding : Obligations.EveryAccessWordIsItsEncoding := by
  intro a p g
  obtain ⟨we, off, w, rfl⟩ : ∃ we off w, a = csrWord we off w := ⟨_, _, _, (csrWord_of_fields a).symm⟩
  cases we with
  | false => simp [decodeCsr, Instr.format, Instr.wellFormed, encode]
  | true =>
    simp only [decodeCsr, csrWe_csrWord, csrOff_csrWord, csrWdata_csrWord, if_true]
    split
    case h_1 h =>
      obtain rfl := BitVec.eq_of_toNat_eq (y := 0#4) h
      cases bit0 : w.getLsbD 0 <;> exact ⟨rfl, by simpa [Instr.wellFormed] using bit0, rfl⟩
    case h_2 h =>
      obtain rfl := BitVec.eq_of_toNat_eq (y := 1#4) h
      exact ⟨rfl, rfl, rfl⟩
    case h_3 h =>
      obtain rfl := BitVec.eq_of_toNat_eq (y := 2#4) h
      exact ⟨rfl, rfl, rfl⟩
    case h_4 h =>
      obtain rfl := BitVec.eq_of_toNat_eq (y := 3#4) h
      exact ⟨rfl, rfl, rfl⟩
    case h_5 h =>
      obtain rfl := BitVec.eq_of_toNat_eq (y := 4#4) h
      exact ⟨rfl, rfl, rfl⟩
    case h_6 n0 n1 n2 n3 n4 =>
      have other : off.toNat ≠ 0 ∧ off.toNat ≠ 1 ∧ off.toNat ≠ 2 ∧ off.toNat ≠ 3 ∧ off.toNat ≠ 4 := ⟨n0, n1, n2, n3, n4⟩
      exact ⟨rfl, decide_eq_true (by omega), rfl⟩

/-- Settles O4: each word is read by evaluation. -/
theorem wordsOfTheSpecDecode : Obligations.WordsOfTheSpecDecode := by
  unfold Obligations.WordsOfTheSpecDecode
  decide

/-! ## The operation that a cycle selects -/

@[simp] theorem selState_guardView (s : State) : selState s.guardView.sel = s.state := selState_selector ..
@[simp] theorem selPktReady_guardView (s : State) : selPktReady s.guardView.sel = s.pktReady := selPktReady_selector ..
@[simp] theorem selMemPend_guardView (s : State) : selMemPend s.guardView.sel = s.memPend := selMemPend_selector ..
@[simp] theorem guardView_timer (s : State) : s.guardView.timer = s.timer := rfl
@[simp] theorem guardView_seq (s : State) : s.guardView.seq = s.seq := rfl

/-- A masked strobe byte, strobe by strobe (rule R117). -/
theorem pv_pattern_iff (pv mask value : BitVec 8) :
    pv &&& mask = value ↔
      (pvRst pv && mask.getLsbD 7) = value.getLsbD 7 ∧ (pvTxDone pv && mask.getLsbD 6) = value.getLsbD 6 ∧
      (pvTxErr pv && mask.getLsbD 5) = value.getLsbD 5 ∧ (pvRxValid pv && mask.getLsbD 4) = value.getLsbD 4 ∧
      (pvRxErr pv && mask.getLsbD 3) = value.getLsbD 3 ∧ (pvMemRspValid pv && mask.getLsbD 2) = value.getLsbD 2 ∧
      (pvMemErr pv && mask.getLsbD 1) = value.getLsbD 1 ∧ (pvMsTick pv && mask.getLsbD 0) = value.getLsbD 0 := by
  simp only [pvRst, pvTxDone, pvTxErr, pvRxValid, pvRxErr, pvMemRspValid, pvMemErr, pvMsTick, ← BitVec.getLsbD_and]
  constructor
  · rintro rfl
    simp
  · rintro ⟨h7, h6, h5, h4, h3, h2, h1, h0⟩
    refine BitVec.eq_of_getLsbD_eq fun i hi => ?_
    interval_cases i <;> assumption

/-- The guard of the operation's row is true of the state, its operands are admitted, and the row's pattern, where it
has one, is true of the strobes (rules R117 and R121). -/
def fitsRow (x : Sample) (s : State) (i : Instr) : Prop :=
  i.guard s.params s.guardView = true ∧ i.wellFormed s.params = true ∧
    ∀ mask value, i.pvPattern = some (mask, value) → x.pv &&& mask = value

/-- An operation of a port row fits under the row's own mask and value. -/
theorem fitsRow_of_strobes {x : Sample} {s : State} {i : Instr} (mask value : BitVec 8)
    (pattern : i.pvPattern = some (mask, value)) (guard : i.guard s.params s.guardView = true)
    (operands : i.wellFormed s.params = true) (strobes : x.pv &&& mask = value) : fitsRow x s i := by
  refine ⟨guard, operands, fun mask' value' h => ?_⟩
  obtain ⟨rfl, rfl⟩ : mask = mask' ∧ value = value' := by simpa [pattern] using h
  exact strobes

/-- TICK_ELAPSED is selected in a BUSY cycle with a tick alone. -/
theorem elapsedOp_fits {x : Sample} {s : State} {i : Instr} (selected : elapsedOp x s = some i) : fitsRow x s i := by
  rw [elapsedOp_eq, Option.ite_none_right_eq_some] at selected
  obtain ⟨h, ⟨⟩⟩ := selected
  simp only [Bool.and_eq_true, Bool.not_eq_true'] at h
  obtain ⟨⟨noReset, tick⟩, busy⟩ := h
  exact fitsRow_of_strobes _ _ rfl (by simpa [Instr.guard, State.busy] using busy) rfl
    (by simp [pv_pattern_iff, noReset, tick])

/-- The operation of the state machine is selected under its row's guard and pattern. -/
theorem arqOp_fits {x : Sample} {s : State} {i : Instr} (noReset : pvRst x.pv = false)
    (selected : arqOp x s = some i) : fitsRow x s i := by
  rw [arqOp_eq] at selected
  cases hs : s.state <;> simp only [hs] at selected
  case idle | done | error => cases selected
  case awaitingSend =>
    split_ifs at selected with pend err rsp ready err done <;> cases selected
    · exact fitsRow_of_strobes _ _ rfl (by simp [Instr.guard, hs, pend]) rfl (by simp [pv_pattern_iff, noReset, err])
    · exact fitsRow_of_strobes _ _ rfl (by simp [Instr.guard, hs, pend]) rfl
        (by simp [pv_pattern_iff, noReset, err, rsp])
    · exact fitsRow_of_strobes _ _ rfl (by simp [Instr.guard, hs, pend, ready]) rfl
        (by simp [pv_pattern_iff, noReset, err])
    · exact fitsRow_of_strobes _ _ rfl (by simp [Instr.guard, hs, pend, ready]) rfl
        (by simp [pv_pattern_iff, noReset, err, done])
  case awaitingAck =>
    split_ifs at selected with err valid acks tick left <;> cases selected
    · exact fitsRow_of_strobes _ _ rfl (by simp [Instr.guard, hs]) rfl (by simp [pv_pattern_iff, noReset, err])
    · have length : x.rx.length s.params = s.params.ackSize := by
        simp only [Datagram.acknowledges, Bool.and_eq_true, decide_eq_true_eq] at acks
        exact acks.1
      exact fitsRow_of_strobes _ _ rfl (by simp [Instr.guard, hs, acks]) (decide_eq_true length)
        (by simp [pv_pattern_iff, noReset, err, valid])
    · exact fitsRow_of_strobes _ _ rfl (by simp [Instr.guard, hs, acks]) rfl
        (by simp [pv_pattern_iff, noReset, err, valid])
    · exact fitsRow_of_strobes _ _ rfl (by simp [Instr.guard, hs, left]) rfl
        (by simp [pv_pattern_iff, noReset, err, valid, tick])
    · exact fitsRow_of_strobes _ _ rfl (by simp [Instr.guard, hs, Nat.not_lt.mp left]) rfl
        (by simp [pv_pattern_iff, noReset, err, valid, tick])
  case confirmed => cases selected; exact ⟨by simp [Instr.guard, hs], rfl, nofun⟩
  case abandoned => cases selected; exact ⟨by simp [Instr.guard, hs], rfl, nofun⟩
  case retry =>
    split_ifs at selected with err done <;> cases selected
    · exact fitsRow_of_strobes _ _ rfl (by simp [Instr.guard, hs]) rfl (by simp [pv_pattern_iff, noReset, err])
    · exact fitsRow_of_strobes _ _ rfl (by simp [Instr.guard, hs]) rfl
        (by simp [pv_pattern_iff, noReset, err, done])

/-- Settles O3, lane by lane. -/
theorem selectedOperationFitsItsRow : Obligations.SelectedOperationFitsItsRow := by
  rintro x s i noReset (selected | selected)
  · exact arqOp_fits noReset selected
  · exact elapsedOp_fits selected

end Sys2Proof.Machine
end

section
/-! Single operations at the edge of their windows: outside the guard nothing changes (rule R123, log 18), and the words
of the acknowledgment and event formats as operations (log 8). -/

namespace Sys2Proof.Machine

/-! ## Outside the window -/

/-- A guarded meaning whose guard fails. -/
theorem next_of_guard_false {guard : Bool} {update s : State} (h : guard = false) :
    (Host.Outcome.next (if guard then update else s) : Host.Outcome State Fault Refusal) = .next s := by
  rw [h, if_neg Bool.false_ne_true]

/-- A guard of the form "in STATE `st`, and `cond`" fails in another STATE, and where `cond` does. -/
theorem state_guard_false {s : State} {st : ArqState} {cond : Bool} (h : s.state ≠ st ∨ cond = false) :
    (s.state == st && cond) = false := by
  rcases h with h | h
  · simp [h]
  · simp [h]

/-- MEM_BYTE outside the memory handshake (rule R123). -/
theorem execMemByte_outside_window (b : Byte) {s : State} (h : s.memReq = false) : execMemByte b s = .next s := by
  rw [execMemByte, if_neg (by simp [h])]

/-- Settles O25: each clause says that the guard at the head of the operation's meaning fails. -/
theorem outsideItsWindowNothingChanges : Obligations.OutsideItsWindowNothingChanges := by
  intro s b d
  refine ⟨fun h => ?memory, fun h => ?txDoneFirst, fun h => ?txDoneRetry, fun h => ?txErr, fun h => ?rxAckMatch,
    fun h => ?rxMismatch, fun h => ?rxErr, fun h => ?msTick, fun h => ?tickExpire, fun h => ?tickElapsed,
    fun h => ?confirm, fun h => ?abandon⟩
  case memory =>
    have closed : s.memReq = false := state_guard_false h
    exact ⟨execMemByte_outside_window b closed, next_of_guard_false closed⟩
  case txDoneFirst => exact next_of_guard_false (state_guard_false h)
  case txDoneRetry => exact next_of_guard_false (by simpa using h)
  case txErr =>
    refine next_of_guard_false (Bool.or_eq_false_iff.mpr ⟨state_guard_false h.1, by simpa using h.2⟩)
  case rxAckMatch => exact next_of_guard_false (state_guard_false h)
  case rxMismatch => exact next_of_guard_false (state_guard_false (by simpa using h))
  case rxErr => exact next_of_guard_false (by simpa [State.rxReady] using h)
  case msTick => exact next_of_guard_false (state_guard_false (by simpa using h))
  case tickExpire => exact next_of_guard_false (state_guard_false (by simpa using h))
  case tickElapsed => exact next_of_guard_false h
  case confirm => exact next_of_guard_false (by simpa using h)
  case abandon => exact next_of_guard_false (by simpa using h)

/-! ## The acknowledgment word -/

/-- `negative` does to the retry counters and STATE what rule R200 says. -/
theorem negative_meets_outcome (s : State) : negativeOutcome s s.negative := by
  have retried : (sat 32 (s.retx.toNat + 1)).toNat = min (s.retx.toNat + 1) (2 ^ 32 - 1) := sat_toNat ..
  have counted : (sat 16 (s.lastAttempts.toNat + 1)).toNat = min (s.lastAttempts.toNat + 1) (2 ^ 16 - 1) := sat_toNat ..
  rcases negative_cases s with ⟨last, e⟩ | ⟨last, within, e⟩ | ⟨last, beyond, e⟩ <;> rw [e]
  · exact ⟨fun _ => ⟨rfl, retried, rfl⟩, by simp [last]⟩
  · exact ⟨by simp [last], fun _ => ⟨counted, fun more => absurd more (Nat.not_lt.mpr within), fun _ => ⟨retried, rfl⟩⟩⟩
  · exact ⟨by simp [last], fun _ => ⟨counted, fun _ => ⟨rfl, rfl⟩, fun less => absurd less (Nat.not_le.mpr beyond)⟩⟩

/-- An acknowledgment in AWAITING_ACK, by its number (rules R197 to R199). -/
theorem exec_ackPkt_awaiting (ackv : BitVec 16) {s : State} (hs : s.state = .awaitingAck) :
    exec (.ackPkt ackv) s = .next (if ackv = s.seq then s.accept else s.negative) :=
  congrArg Host.Outcome.next (if_pos ((rxReady_iff s).mpr hs))

/-- With SEQ's own number it is accepted (rule R198). -/
theorem exec_ackPkt_of_seq {ackv : BitVec 16} {s : State} (hs : s.state = .awaitingAck) (number : ackv = s.seq) :
    exec (.ackPkt ackv) s = .next s.accept := by
  rw [exec_ackPkt_awaiting ackv hs, if_pos number]

/-- Settles O27: the word is ignored, accepted, or a negative outcome. -/
theorem acknowledgmentIsMatchedOrNegative : Obligations.AcknowledgmentIsMatchedOrNegative := by
  intro s ackv
  refine ⟨fun hs => next_of_guard_false (by simpa [State.rxReady] using hs), fun hs number => ?_, fun hs other => ?_⟩
  · exact exec_ackPkt_of_seq hs number
  · rw [exec_ackPkt_awaiting ackv hs, if_neg other]
    exact ⟨_, rfl, negative_meets_outcome s, negative_frame s⟩

/-! ## The event words -/

/-- FATAL's argument is the code, zero-extended (rule R118). -/
theorem fatalArg_toNat (code : BitVec 4) : (fatalArg code).toNat = code.toNat := by
  rw [fatalArg, BitVec.toNat_append]
  simp

/-- Settles O28: every event word is one `emit`. -/
theorem eventWordsDriveTheEventPort : Obligations.EventWordsDriveTheEventPort := by
  rintro s a c i code arg (⟨rfl, rfl, rfl⟩ | ⟨rfl, rfl, rfl⟩ | ⟨rfl, rfl, rfl⟩ | ⟨rfl, rfl, rfl⟩ | ⟨rfl, rfl, rfl⟩ |
    ⟨rfl, rfl, argument⟩)
  case inr.inr.inr.inr.inr =>
    obtain rfl : arg = fatalArg c := BitVec.eq_of_toNat_eq (argument.trans (fatalArg_toNat c).symm)
    rfl
  all_goals rfl

end Sys2Proof.Machine
end

section
/-! Cycles without a host access, and what a cycle does not depend on: strobes outside their window (rule R123) and the
bytes of a datagram of another length (rules R113 and R199). -/

namespace Sys2Proof.Machine

/-! ## A cycle without a host access -/

/-- Without reset and host access, a step is the tick's count and the operation of the state machine (rule R191). -/
theorem step_no_access {s : State} (noReset : pvRst s.sample.pv = false) (noAccess : s.sample.csrEn = false) :
    step s = andThen (runOp (elapsedOp s.sample s) (s.openCycle s.sample)) (runOp (arqOp s.sample s)) := by
  simp [step, runCycle, noReset, hostOp, noAccess, andThen]

/-- Without a tick, it is the operation of the state machine alone. -/
theorem step_no_access_no_tick {s : State} (noReset : pvRst s.sample.pv = false) (noAccess : s.sample.csrEn = false)
    (noTick : pvMsTick s.sample.pv = false) : step s = runOp (arqOp s.sample s) (s.openCycle s.sample) := by
  rw [step_no_access noReset noAccess, elapsedOp_eq]
  simp [noTick, andThen]

/-- The memory port waits while it is silent (rule R318). -/
theorem arqOp_memory_silent {x : Sample} {s : State} (req : s.memReq = true) (noErr : pvMemErr x.pv = false)
    (noByte : pvMemRspValid x.pv = false) : arqOp x s = none := by
  obtain ⟨hs, pend⟩ := (memReq_iff s).mp req
  simp [arqOp_eq, hs, pend, noErr, noByte]

/-- A packet is on offer in AWAITING_SEND, once it is ready, and in RETRY (rule R192). -/
theorem txValid_iff (s : State) :
    s.txValid = true ↔ (s.state = .awaitingSend ∧ s.pktReady = true) ∨ s.state = .retry := by
  simp [State.txValid]

/-- The transport waits while it is silent (rule R318). -/
theorem arqOp_transport_silent {x : Sample} {s : State} (valid : s.txValid = true) (noPend : s.memPend = false)
    (noErr : pvTxErr x.pv = false) (noDone : pvTxDone x.pv = false) : arqOp x s = none := by
  rcases (txValid_iff s).mp valid with ⟨hs, ready⟩ | hs
  · simp [arqOp_eq, hs, noPend, noErr, noDone]
  · simp [arqOp_eq, hs, noErr, noDone]

/-- The wait for an acknowledgment goes on with neither a datagram nor an error nor a tick (rule R318). -/
theorem arqOp_receiver_silent {x : Sample} {s : State} (wait : s.rxReady = true) (noErr : pvRxErr x.pv = false)
    (noDatagram : pvRxValid x.pv = false) (noTick : pvMsTick x.pv = false) : arqOp x s = none := by
  simp [arqOp_eq, (rxReady_iff s).mp wait, noErr, noDatagram, noTick]

/-- Settles O38: no lane has an operation. -/
theorem waitingStatesHold : Obligations.WaitingStatesHold := by
  intro s noReset noAccess h
  rcases h with hb | ⟨req, noErr, noByte, noTick⟩ | ⟨noPend, valid, noErr, noDone, noTick⟩ |
    ⟨wait, noErr, noDatagram, noTick⟩
  · rw [step_no_access noReset noAccess, elapsedOp_not_busy _ _ hb, arqOp_not_busy _ _ hb]
    rfl
  · rw [step_no_access_no_tick noReset noAccess noTick, arqOp_memory_silent req noErr noByte, runOp_none]
  · rw [step_no_access_no_tick noReset noAccess noTick, arqOp_transport_silent valid noPend noErr noDone, runOp_none]
  · rw [step_no_access_no_tick noReset noAccess noTick, arqOp_receiver_silent wait noErr noDatagram noTick, runOp_none]

/-! ## Inputs that make no difference -/

/-- The host lane keeps the parameters, which no operation writes (log 3). -/
theorem host_lane_params {x : Sample} {s t : State} (e : runOp (hostOp x) s = .next t) : t.params = s.params := by
  cases hb : s.busy with
  | true => rw [host_lane_busy x s t hb e]
  | false =>
    rcases host_lane_not_busy x s t hb e with ⟨-, ht⟩ | ⟨-, w, -, ⟨-, ht⟩ | ⟨-, ht⟩⟩ <;> rw [ht] <;> rfl

theorem elapsed_lane_params {x : Sample} {s s1 t : State} (e : runOp (elapsedOp x s) s1 = .next t) :
    t.params = s1.params := by
  rw [elapsedOp_eq] at e
  split at e
  · obtain rfl := Host.Outcome.next.inj e
    split <;> rfl
  · obtain rfl := Host.Outcome.next.inj e
    rfl

/-- What follows an operation counts only on the state that the operation answers. -/
theorem andThen_congr {o : Host.Outcome State Fault Refusal} {f g : State → Host.Outcome State Fault Refusal}
    (h : ∀ t, o = .next t → f t = g t) : andThen o f = andThen o g := by
  cases o with
  | next t => exact h t rfl
  | fault r | refused r => rfl

/-- Two samples have the same cycle from a state if they open it alike and every lane does the same on both. -/
theorem runCycle_congr {s : State} {x y : Sample} (rst : pvRst x.pv = pvRst y.pv)
    (opened : s.openCycle x = s.openCycle y) (host : hostOp x = hostOp y) (elapsed : elapsedOp x s = elapsedOp y s)
    (arq : ∀ u : State, u.params = s.params → runOp (arqOp x s) u = runOp (arqOp y s) u) :
    runCycle s x = runCycle s y := by
  unfold runCycle
  rw [rst, opened, host, elapsed]
  split
  · rfl
  · exact andThen_congr fun s1 e1 => andThen_congr fun s2 e2 =>
      arq s2 ((elapsed_lane_params e2).trans (host_lane_params (s := s.openCycle y) e1))

/-- Clearing strobes other than rst and ms_tick is seen at most by the state machine's lane and by the consumption of a
datagram. -/
theorem runCycle_of_masked_strobes {s : State} {x : Sample} (mask : BitVec 8)
    (rst : mask.getLsbD 7 = true) (tick : mask.getLsbD 0 = true)
    (taken : (pvRxValid (x.pv &&& mask) && s.rxReady) = (pvRxValid x.pv && s.rxReady))
    (arq : arqOp { x with pv := x.pv &&& mask } s = arqOp x s) :
    runCycle s { x with pv := x.pv &&& mask } = runCycle s x := by
  have sameRst : pvRst (x.pv &&& mask) = pvRst x.pv := by rw [pvRst, BitVec.getLsbD_and, rst, Bool.and_true, pvRst]
  have sameTick : pvMsTick (x.pv &&& mask) = pvMsTick x.pv := by
    rw [pvMsTick, BitVec.getLsbD_and, tick, Bool.and_true, pvMsTick]
  refine runCycle_congr sameRst ?_ rfl ?_ fun u _ => by rw [arq]
  · simp only [State.openCycle, State.portOutputs, taken]
  · simp only [elapsedOp_eq, sameRst, sameTick]

/-- Settles O39: the three masks clear the strobes of one port, which is read in its own window alone. -/
theorem outOfWindowStrobesMakeNoDifference : Obligations.OutOfWindowStrobesMakeNoDifference := by
  intro s x
  refine ⟨fun closed => ?tx, fun closed => ?memory, fun closed => ?rx⟩
  case tx =>
    refine runCycle_of_masked_strobes 0x9F rfl rfl (by simp [pvRxValid]) ?_
    cases hs : s.state with
    | awaitingSend =>
      have notReady : s.pktReady = false := by simpa [State.txValid, hs] using closed
      simp [arqOp_eq, hs, notReady, pvMemErr, pvMemRspValid]
    | retry => simp [State.txValid, hs] at closed
    | awaitingAck => simp [arqOp_eq, hs, pvRxErr, pvRxValid, pvMsTick]
    | _ => simp only [arqOp_eq, hs]
  case memory =>
    refine runCycle_of_masked_strobes 0xF9 rfl rfl (by simp [pvRxValid]) ?_
    cases hs : s.state with
    | awaitingSend =>
      have noPend : s.memPend = false := by simpa [State.memReq, hs] using closed
      simp [arqOp_eq, hs, noPend, pvTxErr, pvTxDone]
    | retry => simp [arqOp_eq, hs, pvTxErr, pvTxDone]
    | awaitingAck => simp [arqOp_eq, hs, pvRxErr, pvRxValid, pvMsTick]
    | _ => simp only [arqOp_eq, hs]
  case rx =>
    refine runCycle_of_masked_strobes 0xE7 rfl rfl (by simp [closed]) ?_
    cases hs : s.state with
    | awaitingSend => simp [arqOp_eq, hs, pvMemErr, pvMemRspValid, pvTxErr, pvTxDone]
    | retry => simp [arqOp_eq, hs, pvTxErr, pvTxDone]
    | awaitingAck => simp [State.rxReady, hs] at closed
    | _ => simp only [arqOp_eq, hs]

/-- A datagram of another length than ACK_SIZE acknowledges nothing (rules R113 and R197). -/
theorem not_acknowledges_of_length {d : Datagram} {p : Params} (h : d.length p ≠ p.ackSize) (seq : BitVec 16) :
    d.acknowledges p seq = false := by
  simp [Datagram.acknowledges, h]

/-- Two datagrams that both acknowledge nothing are the same mismatch (rule R199). -/
theorem exec_rxMismatch_congr {u : State} {d d' : Datagram}
    (h : d.acknowledges u.params u.seq = d'.acknowledges u.params u.seq) :
    exec (.rxMismatch d) u = exec (.rxMismatch d') u := by
  show execRxMismatch d u = execRxMismatch d' u
  rw [execRxMismatch, execRxMismatch, h]

/-- Settles O40: the datagram is read by the state machine's lane alone, and there it is a mismatch whatever its bytes
are. -/
theorem bytesOfAnIllSizedDatagramMakeNoDifference : Obligations.BytesOfAnIllSizedDatagramMakeNoDifference := by
  intro s x b0 b1 length
  refine runCycle_congr rfl rfl rfl rfl fun u params => ?_
  have none := not_acknowledges_of_length length
  have none' : ∀ seq, Datagram.acknowledges { x.rx with b0 := b0, b1 := b1 } s.params seq = false :=
    not_acknowledges_of_length length
  have mismatch : exec (.rxMismatch { x.rx with b0 := b0, b1 := b1 }) u = exec (.rxMismatch x.rx) u :=
    exec_rxMismatch_congr (by rw [params, none, none'])
  cases hs : s.state with
  | awaitingAck =>
    simp only [arqOp_eq, hs, none, none', Bool.false_eq_true, if_false]
    split_ifs
    · rfl
    · exact mismatch
    all_goals rfl
  | _ => simp only [arqOp_eq, hs]

end Sys2Proof.Machine
end

section
/-! The outputs of a cycle (rules R115, R116, R271 and R284): the lanes drive the read data, the event port and the
datagram that is sent, and every other output stays as the cycle opened it. -/

namespace Sys2Proof.Machine

/-- The outputs that no operation drives are the same in both. -/
def Outputs.SamePorts (o o' : Outputs) : Prop :=
  o' = { o with csrRdata := o'.csrRdata, evValid := o'.evValid, evCode := o'.evCode, evArg := o'.evArg,
                sent := o'.sent }

theorem Outputs.SamePorts.trans {o o' o'' : Outputs} (h : o.SamePorts o') (h' : o'.SamePorts o'') :
    o.SamePorts o'' := by
  unfold Outputs.SamePorts at *
  rw [h', h]

/-! ## The three lanes -/

/-- A host access drives at most the read data, and FATAL where it is a START that the check rejects. -/
theorem host_lane_samePorts {x : Sample} {s t : State} (e : runOp (hostOp x) s = .next t) : s.out.SamePorts t.out := by
  cases hb : s.busy with
  | true => rw [host_lane_busy x s t hb e]; rfl
  | false =>
    rcases host_lane_not_busy x s t hb e with ⟨-, ht⟩ | ⟨-, w, -, ⟨-, ht⟩ | ⟨-, ht⟩⟩ <;> rw [ht] <;> rfl

/-- A START drives no read data. -/
theorem execStart_csrRdata {w : BitVec 32} {s t : State} (e : execStart w s = .next t) :
    t.out.csrRdata = s.out.csrRdata := by
  rw [execStart_eq] at e
  obtain rfl := Host.Outcome.next.inj e
  split_ifs <;> rfl

/-- A write drives no read data (rule R271). -/
theorem exec_write_csrRdata {a : BitVec 37} {s t : State} (write : csrWe a = true)
    (e : exec (decodeCsr a) s = .next t) : t.out.csrRdata = s.out.csrRdata := by
  simp only [decodeCsr, write, if_true] at e
  split at e
  case h_1 =>
    split at e
    · exact execStart_csrRdata e
    · obtain rfl := Host.Outcome.next.inj e; rfl
  case h_2 | h_6 => obtain rfl := Host.Outcome.next.inj e; rfl
  case h_3 | h_4 | h_5 => obtain rfl := Host.Outcome.next.inj e; split <;> rfl

/-- The read data of a cycle: the register of a read, and otherwise as the cycle opened them (rule R271). -/
theorem host_lane_csrRdata {x : Sample} {s t : State} (e : runOp (hostOp x) s = .next t) :
    t.out.csrRdata = if x.csrEn && !csrWe x.csr then s.readValue (csrOff x.csr) else s.out.csrRdata := by
  obtain ⟨access, noAccess⟩ := (host_lane_eq_next_iff x s t).mp e
  cases en : x.csrEn with
  | false =>
    rw [noAccess en]
    rfl
  | true =>
    cases we : csrWe x.csr with
    | false =>
      have read := access en
      simp only [decodeCsr, we, Bool.false_eq_true, if_false] at read
      obtain rfl := Host.Outcome.next.inj read
      rfl
    | true => exact exec_write_csrRdata we (access en)

/-- A move drives at most the event port and the datagram that is sent. -/
theorem Move.samePorts {s u t : State} {x : Sample} (m : Move s u x t) : u.out.SamePorts t.out := by
  cases m with
  | byte | mismatch | expired => simp [Outputs.SamePorts]
  | _ => rfl

theorem Move.csrRdata {s u t : State} {x : Sample} (m : Move s u x t) : t.out.csrRdata = u.out.csrRdata := by
  cases m <;> simp

/-! ## The whole cycle -/

/-- A cycle that starts BUSY, with what the host lane drove before the move. -/
theorem step_busy_lanes {s t : State} (noReset : pvRst s.sample.pv = false) (hb : s.busy = true)
    (e : step s = .next t) :
    ∃ s1 u : State, runOp (hostOp s.sample) (s.openCycle s.sample) = .next s1 ∧ u.out = s1.out ∧
      Move s u s.sample t := by
  obtain ⟨s1, host⟩ := host_lane_next s.sample (s.openCycle s.sample)
  have e1 := host_lane_busy s.sample (s.openCycle s.sample) s1 hb host
  have elapsed := elapsed_lane s.sample s s1 (by rw [e1]; rfl)
  have lane := step_eq_arq_lane noReset host elapsed
  rw [e] at lane
  refine ⟨s1, _, host, ?_, arq_lane_move _ s _ t ?_ ?_ ?_ ?_ ?_ ?_ ?_ ?_ lane.symm⟩
  · split <;> rfl
  all_goals split <;> rw [e1] <;> rfl

/-- Every cycle drives the ports of rule R116 as it opened them, from the state at its start. -/
theorem step_samePorts {s t : State} (e : step s = .next t) : (s.portOutputs s.sample).SamePorts t.out := by
  cases hr : pvRst s.sample.pv with
  | true => rw [step_reset_next s t hr e]; rfl
  | false =>
    cases hb : s.busy with
    | false =>
      rw [step_not_busy s hr hb] at e
      exact host_lane_samePorts e
    | true =>
      obtain ⟨s1, u, host, out, m⟩ := step_busy_lanes hr hb e
      exact (host_lane_samePorts host).trans (out ▸ m.samePorts)

/-- The read data of a cycle are the register of its read, at the start of the cycle, and 0 without one (rule R271). -/
theorem step_csrRdata {s t : State} (e : step s = .next t) :
    t.out.csrRdata = if !pvRst s.sample.pv && s.sample.csrEn && !csrWe s.sample.csr
      then s.readValue (csrOff s.sample.csr) else 0 := by
  cases hr : pvRst s.sample.pv with
  | true => rw [step_reset_next s t hr e]; rfl
  | false =>
    cases hb : s.busy with
    | false =>
      rw [step_not_busy s hr hb] at e
      exact host_lane_csrRdata e
    | true =>
      obtain ⟨s1, u, host, out, m⟩ := step_busy_lanes hr hb e
      rw [m.csrRdata, out]
      exact host_lane_csrRdata host

/-- Settles O32: the ports are those of the opened cycle, and the read data are the host lane's. -/
theorem outputsReadTheStartOfTheCycle : Obligations.OutputsReadTheStartOfTheCycle := by
  intro s t e
  have ports := step_samePorts e
  refine ⟨by rw [ports]; rfl, by rw [ports]; rfl, by rw [ports]; rfl, fun req => ?_, by rw [ports]; rfl,
    fun inside => ?_, by rw [ports]; rfl, step_csrRdata e⟩
  · have address : t.out.memAddr = s.memAddr := by rw [ports]; exact if_pos req
    rw [address, State.memAddr, BitVec.toNat_ofNat]
  · have byte : t.out.pktRdData = s.pktRead s.sample.pktRdAddr.toNat := by rw [ports]; rfl
    rw [byte, State.pktRead, if_pos inside]

/-! ## The event port -/

/-- The event port reads 0, or shows one of the six events (rules R118, R122 and R284). -/
def Outputs.EventFits (o : Outputs) : Prop :=
  (o.evValid = false → o.evCode = 0 ∧ o.evArg = 0) ∧ (o.evValid = true → 1 ≤ o.evCode.toNat ∧ o.evCode.toNat ≤ 6)

/-- The port as a cycle opens it. -/
theorem Outputs.EventFits.of_quiet {o : Outputs} (valid : o.evValid = false) (code : o.evCode = 0)
    (arg : o.evArg = 0) : o.EventFits :=
  ⟨fun _ => ⟨code, arg⟩, by simp [valid]⟩

/-- An emitted event. -/
theorem Outputs.EventFits.of_event {o : Outputs} (code : BitVec 3) (range : 1 ≤ code.toNat ∧ code.toNat ≤ 6)
    (valid : o.evValid = true) (shown : o.evCode = code) : o.EventFits :=
  ⟨by simp [valid], fun _ => shown ▸ range⟩

/-- A move emits one of the six events, or leaves the port as it is. -/
theorem Move.eventFits {s u t : State} {x : Sample} (m : Move s u x t) (h : u.out.EventFits) : t.out.EventFits := by
  cases m with
  | hold | byte | mismatch | tick | nextFrame | finished => simpa using h
  | sent => exact .of_event 1 (by decide) rfl rfl
  | expired => exact .of_event 2 (by decide) (by simp) (by simp)
  | resent => exact .of_event 3 (by decide) rfl rfl
  | accepted => exact .of_event 4 (by decide) rfl rfl
  | gaveUp => exact .of_event 5 (by decide) rfl rfl
  | memFail | txFail | rxFail => exact .of_event 6 (by decide) rfl rfl

/-- Settles O33: the port opens quiet, and a rejected START or a move drives an event on it. -/
theorem eventPortIsQuietOrNamesAnEvent : Obligations.EventPortIsQuietOrNamesAnEvent := by
  intro s t e
  show t.out.EventFits
  cases hr : pvRst s.sample.pv with
  | true => rw [step_reset_next s t hr e]; exact .of_quiet rfl rfl rfl
  | false =>
    rcases step_cases s t hr e with ⟨hb, e⟩ | ⟨-, u, lanes, m⟩
    · rcases host_lane_not_busy _ (s.openCycle s.sample) t hb e with ⟨-, ht⟩ | ⟨-, w, -, ⟨-, ht⟩ | ⟨-, ht⟩⟩
      · rw [ht]; exact .of_quiet rfl rfl rfl
      · rw [ht]; exact .of_event 6 (by decide) rfl rfl
      · rw [ht]; exact .of_quiet rfl rfl rfl
    · exact m.eventFits (.of_quiet lanes.evValid lanes.evCode lanes.evArg)

end Sys2Proof.Machine
end

section
/-! The packet on offer (rules R112, R164, R165 and R192): in the invariant its bytes are a data packet's. -/

namespace Sys2Proof.Machine

/-- The buffer's bytes are the header and the rest, once the header stands in them (rule R164). -/
theorem packet_eq_header_append {s : State} (room : 3 ≤ s.params.packetSize)
    (header : ∀ i < 3, s.pktBuf.read i = (headerBytes s.seq s.isLast)[i]?.getD 0) :
    s.packet = headerBytes s.seq s.isLast ++ s.packet.drop 3 := by
  have first : s.packet.take 3 = headerBytes s.seq s.isLast := by
    refine List.ext_getElem? fun i => ?_
    by_cases hi : i < 3
    · rw [List.getElem?_take_of_lt hi, packet_getElem s i (by omega), header i hi]
      simp [headerBytes, hi]
    · rw [List.getElem?_eq_none (by simp; omega), List.getElem?_eq_none (by simp [headerBytes]; omega)]
  rw [← first, List.take_append_drop]

/-- A byte behind the three bytes of the header (rule R112). -/
theorem packet_drop_getElem {s : State} {k : Nat} (h : 3 + k < s.params.packetSize) :
    (s.packet.drop 3)[k]? = some (s.pktBuf.read (3 + k)) := by
  rw [List.getElem?_drop, packet_getElem s _ h]

/-- A packet is on offer only while BUSY, with all its payload bytes read (rule R37). -/
theorem BlockInv.while_offered {s : State} (h : BlockInv s) (valid : s.txValid = true) :
    Transfer s ∧ s.memIdx = s.frameLen := by
  rcases (txValid_iff s).mp valid with ⟨hs, ready⟩ | hs
  · exact ⟨h.transfer (by simp [busy_eq_true_iff, hs]), h.ready ready⟩
  · exact ⟨h.transfer (by simp [busy_eq_true_iff, hs]), h.ready (h.offered (by simp [hs]))⟩

/-- Settles O50: the payload is what follows the header in the buffer, and its zero bytes are the invariant's pads. -/
theorem offeredPacketIsTheFrame : Obligations.OfferedPacketIsTheFrame := by
  intro s h valid
  obtain ⟨transfer, index⟩ := h.while_offered valid
  have room : 3 ≤ s.params.packetSize := Nat.le_add_right_of_le h.legal.2.1
  refine ⟨s.packet.drop 3, ?_, fun k pad inside => ?_⟩
  · rw [packet_eq_header_append room transfer.header]
    have length : (s.packet.drop 3).length = s.params.packetSize - 3 := by rw [List.length_drop, packet_length]
    exact Laws.RoundTrip.dataPkt s.seq s.isLast _ s.params s.guardView (decide_eq_true (by omega)) rfl
  · rw [packet_drop_getElem inside]
    rcases pad with pad | pad
    · rw [transfer.headerPad _ (by omega) pad]
    · rw [transfer.zeroPad _ inside (by rwa [index])]

end Sys2Proof.Machine
end

section
/-! Making an operation the next one (log 10): the state that presents it has its guard true and its encoding as the
next sample, so that the step's own decoder selects it. -/

namespace Sys2Proof.Machine

/-! ## Register accesses -/

/-- A register access is presented by its own access word. -/
theorem present_access (s : State) (p : Params) (g : GuardView) {i : Instr} (format : i.format = .fCsr) :
    ∃ a, s.present i = s.offer (access a) ∧ encode p g i = .csr a ∧ i.guard p g = true := by
  cases i with
  | csrRd | csrWrCtrl | start | csrWrStatus | csrWrSrcBase | csrWrSrcLen | csrWrTimeout | csrWrRo =>
    exact ⟨_, rfl, rfl, rfl⟩
  | _ => cases format

/-- Without strobes only CONFIRMED and ABANDONED select an operation (rule R119). -/
theorem arqOp_no_strobe {x : Sample} {s : State} (quiet : x.pv = 0) (notConfirmed : s.state ≠ .confirmed)
    (notAbandoned : s.state ≠ .abandoned) : arqOp x s = none := by
  cases hs : s.state with
  | confirmed => exact absurd hs notConfirmed
  | abandoned => exact absurd hs notAbandoned
  | _ => simp [arqOp_eq, hs, quiet, pvMemErr, pvMemRspValid, pvTxErr, pvTxDone, pvRxErr, pvRxValid, pvMsTick]

/-- A cycle with a host access and no strobe runs the access alone (rule R191). -/
theorem step_access {s : State} (a : BitVec 37) (notConfirmed : s.state ≠ .confirmed)
    (notAbandoned : s.state ≠ .abandoned) :
    step (s.offer (access a)) = exec (decodeCsr a) ((s.offer (access a)).openCycle (access a)) := by
  have noReset : pvRst (access a).pv = false := by simp [access, Sample.quiet, pvRst]
  have noTick : elapsedOp (access a) (s.offer (access a)) = none := by
    simp [elapsedOp_eq, access, Sample.quiet, pvMsTick]
  have idle : arqOp (access a) (s.offer (access a)) = none := arqOp_no_strobe rfl notConfirmed notAbandoned
  obtain ⟨s1, host⟩ := host_lane_next (access a) ((s.offer (access a)).openCycle (access a))
  have elapsed : runOp (elapsedOp (access a) (s.offer (access a))) s1 = .next s1 := by rw [noTick, runOp_none]
  have lane := step_eq_arq_lane (s := s.offer (access a)) noReset host elapsed
  rw [sample_offer, idle, runOp_none] at lane
  exact lane.trans host.symm

/-- A presented register access is run (rules R114 and R121). -/
theorem step_present_access (s : State) {i : Instr} (wf : i.wellFormed s.params = true) (format : i.format = .fCsr)
    (notConfirmed : s.state ≠ .confirmed) (notAbandoned : s.state ≠ .abandoned) :
    step (s.present i) = exec i ((s.present i).openCycle (s.present i).sample) := by
  obtain ⟨a, present, word, guard⟩ := present_access s s.params s.guardView format
  have decoded : decodeCsr a = i := by
    have trip := decodeOfEncodeIsTheOperation i s.params s.guardView wf guard
    rw [word] at trip
    exact Except.ok.inj trip
  rw [present, step_access a notConfirmed notAbandoned, decoded, sample_offer]

/-! ## The state machine's operations -/

/-- The operations that the state machine's lane runs. -/
def inArqLane : Instr → Bool
  | .memByte _ | .memErr | .txDoneFirst | .txDoneRetry | .txErr | .rxAckMatch _ | .rxMismatch _ | .rxErr | .msTick
  | .tickExpire | .confirm | .abandon => true
  | _ => false

/-- The presenting state has the guard of the operation true (rule R121). -/
theorem present_guard (s : State) {i : Instr} (wf : i.wellFormed s.params = true) (lane : inArqLane i = true) :
    i.guard (s.present i).params (s.present i).guardView = true := by
  cases i with
  | memByte | memErr | txDoneFirst | txDoneRetry | txErr | rxErr | confirm | abandon =>
    simp [Instr.guard, State.present, State.framing, State.offering, State.waiting]
  | rxAckMatch d =>
    have length : d.length s.params = s.params.ackSize := of_decide_eq_true wf
    simp [Instr.guard, State.present, State.waiting, Datagram.acknowledges, length]
  | rxMismatch d =>
    cases acks : d.acknowledges s.params s.seq with
    | false => simp [Instr.guard, State.present, State.waiting, acks]
    | true =>
      have other : d.acknowledges s.params (d.ackv + 1#16) = false := by simp [Datagram.acknowledges]
      simp [Instr.guard, State.present, State.waiting, acks, other]
  | msTick =>
    by_cases left : 1 < s.timer.toNat <;> simp [Instr.guard, State.present, State.waiting, left]
  | tickExpire =>
    by_cases last : s.timer.toNat ≤ 1 <;> simp [Instr.guard, State.present, State.waiting, last]
  | _ => cases lane

theorem orError_eq_ok {e : DecodeError} {o : Option Instr} {i : Instr} : orError e o = .ok i ↔ o = some i := by
  cases o <;> simp [orError]

/-- The lane reads an operation off a sample that encodes it. -/
theorem arqOp_of_encode {x : Sample} {u : State} {i : Instr} (noReset : pvRst x.pv = false)
    (wf : i.wellFormed u.params = true) (guard : i.guard u.params u.guardView = true)
    (word : encode u.params u.guardView i = .port x.pv x.rx x.memData u.guardView) : arqOp x u = some i := by
  have trip := decodeOfEncodeIsTheOperation i u.params u.guardView wf guard
  rw [word, decode, noReset, if_neg Bool.false_ne_true] at trip
  exact orError_eq_ok.mp trip

/-- Presenting an operation drives neither rst nor the host bus, and ms_tick for the two ticks alone. -/
theorem present_sample (s : State) {i : Instr} (lane : inArqLane i = true) :
    pvRst (s.present i).sample.pv = false ∧ (s.present i).sample.csrEn = false ∧
      pvMsTick (s.present i).sample.pv = decide (i = .msTick ∨ i = .tickExpire) := by
  cases i with
  | memByte | memErr | txDoneFirst | txDoneRetry | txErr | rxAckMatch | rxMismatch | rxErr | msTick | tickExpire
  | confirm | abandon => simp [State.present, strobes, delivery, Sample.quiet, pvRst, pvMsTick]
  | _ => cases lane

theorem present_params (s : State) (i : Instr) (lane : inArqLane i = true) : (s.present i).params = s.params := by
  cases i with
  | memByte | memErr | txDoneFirst | txDoneRetry | txErr | rxAckMatch | rxMismatch | rxErr | msTick | tickExpire
  | confirm | abandon => rfl
  | _ => cases lane

/-- The presented operation is the one selected. -/
theorem present_selects (s : State) {i : Instr} (wf : i.wellFormed s.params = true) (lane : inArqLane i = true) :
    arqOp (s.present i).sample (s.present i) = some i := by
  obtain ⟨noReset, -, -⟩ := present_sample s lane
  have guard := present_guard s wf lane
  rw [← present_params s i lane] at wf
  cases i with
  | memByte | memErr | txDoneFirst | txDoneRetry | txErr | rxAckMatch | rxMismatch | rxErr | msTick | tickExpire =>
    exact arqOp_of_encode noReset wf guard rfl
  | confirm | abandon => rw [arqOp_eq]; rfl
  | _ => cases lane

/-- A presented operation of the state machine is run, in the state that the tick's count leaves where there is one. -/
theorem step_present_arq (s : State) {i : Instr} (wf : i.wellFormed s.params = true) (lane : inArqLane i = true) :
    step (s.present i) =
      if i = .msTick ∨ i = .tickExpire then
        andThen (exec .tickElapsed ((s.present i).openCycle (s.present i).sample)) (exec i)
      else exec i ((s.present i).openCycle (s.present i).sample) := by
  obtain ⟨noReset, noAccess, tick⟩ := present_sample s lane
  have selected := present_selects s wf lane
  by_cases ticks : i = .msTick ∨ i = .tickExpire
  · have busy : (s.present i).busy = true := by rcases ticks with rfl | rfl <;> rfl
    rw [step_no_access noReset noAccess, selected, elapsedOp_eq, noReset, tick, busy, if_pos ticks,
      decide_eq_true ticks]
    rfl
  · rw [step_no_access_no_tick noReset noAccess (tick.trans (decide_eq_false ticks)), selected, if_neg ticks,
      runOp_some]

/-- A presented reset is run, and alone (rule R341). -/
theorem step_present_reset (s : State) :
    step (s.present .reset) = exec .reset ((s.present .reset).openCycle (s.present .reset).sample) :=
  step_reset _ (by simp [State.present, strobes, pvRst])

/-- A presented TICK_ELAPSED is run, beside no operation of the state machine (rule R246). -/
theorem step_present_tickElapsed (s : State) :
    step (s.present .tickElapsed) =
      exec .tickElapsed ((s.present .tickElapsed).openCycle (s.present .tickElapsed).sample) := by
  have noReset : pvRst (s.present .tickElapsed).sample.pv = false := by simp [State.present, strobes, pvRst]
  have selected : elapsedOp (s.present .tickElapsed).sample (s.present .tickElapsed) = some .tickElapsed := by
    rw [elapsedOp_eq, if_pos]
    simp [State.present, strobes, State.offering, State.busy, ArqState.busy, pvRst, pvMsTick]
  have idle : arqOp (s.present .tickElapsed).sample (s.present .tickElapsed) = none :=
    arqOp_transport_silent rfl rfl (by simp [State.present, strobes, pvTxErr])
      (by simp [State.present, strobes, pvTxDone])
  rw [step_no_access noReset rfl, selected, idle]
  rfl

/-- Settles O30: a register access runs in the host lane, TICK_ELAPSED beside the state machine, a reset alone, and
every other port or state operation in the state machine's lane. -/
theorem presentedOperationIsRun : Obligations.PresentedOperationIsRun := by
  intro s i wf format rest
  cases i with
  | csrRd | csrWrCtrl | start | csrWrStatus | csrWrSrcBase | csrWrSrcLen | csrWrTimeout | csrWrRo =>
    obtain ⟨notConfirmed, notAbandoned⟩ := rest rfl
    rw [if_neg (by simp)]
    exact step_present_access s wf rfl notConfirmed notAbandoned
  | reset =>
    rw [if_neg (by simp)]
    exact step_present_reset s
  | tickElapsed =>
    rw [if_neg (by simp)]
    exact step_present_tickElapsed s
  | memByte | memErr | txDoneFirst | txDoneRetry | txErr | rxAckMatch | rxMismatch | rxErr | msTick | tickExpire
  | confirm | abandon => exact step_present_arq s wf rfl
  | dataPkt | ackPkt | evSent | evTimeout | evResend | evAckAccepted | evGiveUp | evFatal =>
    simp [Instr.format] at format

end Sys2Proof.Machine
end

section
/-! The words that the block drives or receives, made the next ones (log 10): each is presented as an operation that the
step runs. -/

namespace Sys2Proof.Machine

/-! ## A packet in the buffer -/

theorem bufferOf_wf (i : Nat) (bs : List Byte) : (bufferOf i bs).wf := by
  induction bs generalizing i with
  | nil => exact ⟨List.Pairwise.nil, nofun⟩
  | cons b bs ih => exact Memory.write_wf _ _ _ (ih (i + 1))

/-- The buffer holds the bytes in order from its first index on. -/
theorem bufferOf_read (i k : Nat) (bs : List Byte) : (bufferOf i bs).read (i + k) = bs[k]?.getD 0 := by
  induction bs generalizing i k with
  | nil => rfl
  | cons b bs ih =>
    cases k with
    | zero => exact Memory.read_write_same _ _ _ (bufferOf_wf ..)
    | succ k =>
      rw [bufferOf, Memory.read_write_other _ _ _ _ (bufferOf_wf ..) (by omega)]
      simpa [Nat.add_assoc, Nat.add_comm 1 k] using ih (i + 1) k

/-- A buffer of PACKET_SIZE bytes is handed over as these bytes (rule R86). -/
theorem packet_of_bufferOf {s : State} {bs : List Byte} (buffer : s.pktBuf = bufferOf 0 bs)
    (length : bs.length = s.params.packetSize) : s.packet = bs := by
  refine List.ext_getElem (by rw [packet_length, length]) fun k hk hk' => ?_
  have byte := bufferOf_read 0 k bs
  rw [Nat.zero_add] at byte
  simp [State.packet, buffer, byte, hk']

/-! ## Event words -/

/-- The event port shows the given event after the cycle. -/
def Shows (o : Host.Outcome State Fault Refusal) (code : BitVec 3) (arg : BitVec 16) : Prop :=
  ∃ t, o = .next t ∧ t.out.evValid = true ∧ t.out.evCode = code ∧ t.out.evArg = arg

/-- The step of a presented operation of the state machine other than a tick. -/
theorem step_present_of_not_tick (s : State) {i : Instr} (wf : i.wellFormed s.params = true)
    (lane : inArqLane i = true) (noTick : ¬(i = .msTick ∨ i = .tickExpire)) :
    step (s.present i) = exec i ((s.present i).openCycle (s.present i).sample) := by
  rw [step_present_arq s wf lane, if_neg noTick]

/-- The tick that ends the wait shows TIMEOUT (rules R243 and R246). -/
theorem ticks_show_timeout {u : State} (hs : u.state = .awaitingAck) (last : u.timer.toNat ≤ 1) :
    Shows (andThen (exec .tickElapsed u) (exec .tickExpire)) 2 u.seq := by
  have counted : exec .tickElapsed u = .next { u with elapsed := sat 32 (u.elapsed.toNat + 1) } :=
    congrArg Host.Outcome.next (if_pos (by simp [State.busy, ArqState.busy, hs]))
  have expired (v : State) (hs : v.state = .awaitingAck) (last : v.timer.toNat ≤ 1) :
      exec .tickExpire v = .next ({ v with timer := 0 }.emit 2 v.seq).negative :=
    congrArg Host.Outcome.next (if_pos (by simp [hs, last]))
  rw [counted]
  exact ⟨_, expired _ hs last, by simp, by simp, by simp⟩

/-- A START that its check rejects shows FATAL with the check's code (rules R275 and R304). -/
theorem start_shows_fatal {u : State} {w : BitVec 32} (hb : u.busy = false) {code : BitVec 4} (check : u.check = code)
    (rejected : code ≠ 0) : Shows (exec (.start w) u) 6 (fatalArg code) := by
  have e : exec (.start w) u = .next ({ u with irqEn := w.getLsbD 1 }.startInit.fatal u.check) := by
    show execStart w u = _
    rw [execStart_eq, hb, if_neg Bool.false_ne_true, check, if_neg rejected]
  exact ⟨_, e, rfl, rfl, by rw [← check]; rfl⟩

/-- A START presented in IDLE with a configuration that its check rejects. -/
theorem presented_start_shows_fatal {s : State} (idle : s.state = .idle) {code : BitVec 4} (check : s.check = code)
    (rejected : code ≠ 0) : Shows (step (s.present (.start 1))) 6 (fatalArg code) := by
  rw [step_present_access s rfl rfl (by simp [idle]) (by simp [idle])]
  exact start_shows_fatal (by simp [State.present, State.busy, ArqState.busy, idle]) check rejected

/-! The codes of a failing check, by its first failing condition (rule R275). -/

theorem check_of_timeout {s : State} (timeout : sint32 s.timeoutMs ≤ 0) : s.check = 1 := if_pos timeout

theorem check_of_length {s : State} (timeout : 0 < sint32 s.timeoutMs) (long : s.params.maxLen < s.srcLen.toNat) :
    s.check = 2 := by
  rw [State.check, if_neg (not_le.mpr timeout), if_pos long]

theorem check_of_range {s : State} (timeout : 0 < sint32 s.timeoutMs) (length : s.srcLen.toNat ≤ s.params.maxLen)
    (range : 2 ^ 32 < s.srcBase.toNat + s.srcLen.toNat) : s.check = 3 := by
  rw [State.check, if_neg (not_le.mpr timeout), if_neg (not_lt.mpr length), if_pos range]

/-- MAX_LEN is below 2^32 - 1, and at least 2 (rule R7). -/
theorem maxLen_range {p : Params} (h : p.Legal) : 2 ≤ p.maxLen ∧ p.maxLen + 1 < 2 ^ 32 := by
  obtain ⟨⟨payload, small, -⟩, -, -, ⟨low, high⟩, -⟩ := h
  have frames : 2 ^ 1 ≤ 2 ^ p.seqW := Nat.pow_le_pow_right (by omega) low
  have frames' : 2 ^ p.seqW ≤ 2 ^ 16 := Nat.pow_le_pow_right (by omega) high
  constructor
  · exact Nat.mul_le_mul frames payload
  · have := Nat.mul_le_mul frames' small
    unfold Params.maxLen Params.maxFrames
    omega

/-- A presented FATAL word is shown: codes 1 to 3 by a rejected START, 4 to 6 by an error input (rules R275 and
R301). -/
theorem presented_fatal_shown (s : State) (legal : s.params.Legal) (c : BitVec 4) (low : 1 ≤ c.toNat)
    (high : c.toNat ≤ 6) : Shows (step (s.present (.evFatal c))) 6 (fatalArg c) := by
  obtain ⟨atLeastTwo, small⟩ := maxLen_range legal
  have onePositive : 0 < sint32 1 := by decide
  have zeroRejected : sint32 0 ≤ 0 := by decide
  have range : 2 ^ 32 < (BitVec.allOnes 32).toNat + (2 : BitVec 32).toNat := by decide
  obtain rfl | rfl | rfl | rfl | rfl | rfl : c = 1 ∨ c = 2 ∨ c = 3 ∨ c = 4 ∨ c = 5 ∨ c = 6 := by bv_omega
  · have check := check_of_timeout (s := { s with state := .idle, timeoutMs := 0 }) zeroRejected
    exact presented_start_shows_fatal rfl check (by decide)
  · have long : s.params.maxLen < (BitVec.ofNat 32 (s.params.maxLen + 1)).toNat := by
      rw [BitVec.toNat_ofNat, Nat.mod_eq_of_lt small]
      exact Nat.lt_succ_self _
    have check := check_of_length
      (s := { s with state := .idle, timeoutMs := 1, srcLen := BitVec.ofNat 32 (s.params.maxLen + 1) }) onePositive
      long
    exact presented_start_shows_fatal rfl check (by decide)
  · have check := check_of_range
      (s := { s with state := .idle, timeoutMs := 1, srcLen := 2, srcBase := BitVec.allOnes 32 }) onePositive
      atLeastTwo range
    exact presented_start_shows_fatal rfl check (by decide)
  · exact ⟨_, step_present_of_not_tick s (i := .txErr) rfl rfl (by simp), rfl, rfl, rfl⟩
  · exact ⟨_, step_present_of_not_tick s (i := .rxErr) rfl rfl (by simp), rfl, rfl, rfl⟩
  · exact ⟨_, step_present_of_not_tick s (i := .memErr) rfl rfl (by simp), rfl, rfl, rfl⟩

/-! ## Acknowledgment words -/

/-- With SEQ's own number the word is the matching datagram (rules R197 and R198). -/
theorem exec_rxAckMatch_of_ackPkt (u : State) {p : Params} (params : u.params = p) (legal : p.Legal) {ackv : BitVec 16}
    (number : ackv = u.seq) : exec (.rxAckMatch (ackDatagram p ackv)) u = exec (.ackPkt ackv) u := by
  subst params
  simp [exec, execRxAckMatch, execAckPkt, ackDatagram_acknowledges _ _ _ legal, number]

/-- With any other number it is a mismatch (rule R199). -/
theorem exec_rxMismatch_of_ackPkt (u : State) {p : Params} (params : u.params = p) (legal : p.Legal) {ackv : BitVec 16}
    (other : ackv ≠ u.seq) : exec (.rxMismatch (ackDatagram p ackv)) u = exec (.ackPkt ackv) u := by
  subst params
  simp [exec, execRxMismatch, execAckPkt, ackDatagram_acknowledges _ _ _ legal, other]

/-- Presenting the acknowledgment of a number presents the datagram that matches it. -/
theorem present_rxAckMatch_ackDatagram (s : State) (seq : BitVec 16) :
    s.present (.rxAckMatch (ackDatagram s.params seq)) =
      (s.waiting seq).offer (delivery (ackDatagram s.params seq)) := by
  simp [State.present]

/-- The presented datagram of SEQ's own number is consumed as the operation of its acknowledgment word. -/
theorem step_of_presented_match (s : State) (legal : s.params.Legal) (seq : BitVec 16) :
    step ((s.waiting seq).offer (delivery (ackDatagram s.params seq))) =
      exec (.ackPkt seq) (((s.waiting seq).offer (delivery (ackDatagram s.params seq))).openCycle
        (delivery (ackDatagram s.params seq))) := by
  have wf : (Instr.rxAckMatch (ackDatagram s.params seq)).wellFormed s.params = true :=
    decide_eq_true (ackDatagram_length s.params seq legal)
  have run := step_present_of_not_tick s wf rfl (by simp)
  rw [present_rxAckMatch_ackDatagram, sample_offer] at run
  exact run.trans (exec_rxAckMatch_of_ackPkt (((s.waiting seq).offer _).openCycle _) rfl legal rfl)

/-- A presented acknowledgment word is consumed as the operation of that word. -/
theorem presented_ackPkt_run (s : State) (ackv : BitVec 16) (legal : s.params.Legal) :
    step (s.present (.ackPkt ackv)) =
      exec (.ackPkt ackv) ((s.present (.ackPkt ackv)).openCycle (s.present (.ackPkt ackv)).sample) := by
  by_cases number : ackv = s.seq
  · subst number
    exact step_of_presented_match s legal s.seq
  · have acks : (ackDatagram s.params ackv).acknowledges s.params s.seq = false := by
      simp [ackDatagram_acknowledges _ _ _ legal, number]
    have present : s.present (.ackPkt ackv) = s.present (.rxMismatch (ackDatagram s.params ackv)) := by
      simp [State.present, acks]
    have run := step_present_of_not_tick s (i := .rxMismatch (ackDatagram s.params ackv)) rfl rfl (by simp)
    rw [← present] at run
    exact run.trans (exec_rxMismatch_of_ackPkt ((s.present (.ackPkt ackv)).openCycle _) rfl legal number)

/-! ## The statement -/

/-- A presented packet is handed over. -/
theorem presented_packet_sent (s : State) (seq : BitVec 16) (last : Bool) (payload : List Byte)
    (length : 3 + payload.length = s.params.packetSize) :
    ∃ t, step (s.present (.dataPkt seq last payload)) = .next t ∧
      t.out.sent = some (headerBytes seq last ++ payload) := by
  have run := step_present_of_not_tick
    { s with seq := seq, isLast := last, pktBuf := bufferOf 0 (headerBytes seq last ++ payload) }
    (i := .txDoneFirst) rfl rfl (by simp)
  have whole : (headerBytes seq last ++ payload).length = s.params.packetSize := by
    rw [List.length_append, ← length]
    rfl
  exact ⟨_, run, congrArg some (packet_of_bufferOf rfl whole)⟩

/-- A presented event word is shown, by the operation that emits it. -/
theorem presented_event_shown (s : State) (i : Instr) (code : BitVec 3) (arg : BitVec 16) (legal : s.params.Legal)
    (h : (i = .evSent arg ∧ code = 1) ∨ (i = .evTimeout arg ∧ code = 2) ∨ (i = .evResend arg ∧ code = 3) ∨
      (i = .evAckAccepted arg ∧ code = 4) ∨ (i = .evGiveUp arg ∧ code = 5) ∨
      (∃ c : BitVec 4, i = .evFatal c ∧ 1 ≤ c.toNat ∧ c.toNat ≤ 6 ∧ code = 6 ∧ arg.toNat = c.toNat)) :
    Shows (step (s.present i)) code arg := by
  rcases h with ⟨rfl, rfl⟩ | ⟨rfl, rfl⟩ | ⟨rfl, rfl⟩ | ⟨rfl, rfl⟩ | ⟨rfl, rfl⟩ | ⟨c, rfl, low, high, rfl, value⟩
  · exact ⟨_, step_present_of_not_tick { s with seq := arg } (i := .txDoneFirst) rfl rfl (by simp), rfl, rfl, rfl⟩
  · have run := step_present_arq { s with seq := arg, timer := 1 } (i := .tickExpire) rfl rfl
    rw [if_pos (.inr rfl)] at run
    have last : (1 : BitVec 31).toNat ≤ 1 := by decide
    exact run ▸ ticks_show_timeout rfl last
  · exact ⟨_, step_present_of_not_tick { s with seq := arg } (i := .txDoneRetry) rfl rfl (by simp), rfl, rfl, rfl⟩
  · have run := step_of_presented_match s legal arg
    exact ⟨_, run.trans (exec_ackPkt_of_seq rfl rfl), rfl, rfl, rfl⟩
  · exact ⟨_, step_present_of_not_tick { s with seq := arg } (i := .abandon) rfl rfl (by simp), rfl, rfl, rfl⟩
  · obtain rfl : arg = fatalArg c := BitVec.eq_of_toNat_eq (value.trans (fatalArg_toNat c).symm)
    exact presented_fatal_shown s legal c low high

/-- Settles O31: a decoded word is presented as its operation, and the three kinds of driven words follow. -/
theorem presentedWordIsDriven : Obligations.PresentedWordIsDriven := by
  refine ⟨fun s nbits w i decoded => ?_, presented_event_shown, presented_packet_sent, presented_ackPkt_run⟩
  have fetched : s.withFetchWord nbits w = s.present i := by rw [State.withFetchWord, decoded]
  rw [fetched]

end Sys2Proof.Machine
end

section
/-! The framer: the byte that MEM_BYTE adds (rule R167), the number and length of the last frame (rules R170 and R171),
and the fatal errors of the three ports, as operations and as inputs of a cycle (rules R168 and R304 to R308). -/

namespace Sys2Proof.Machine

/-! ## The next payload byte -/

theorem ofNat_succ_memIdx (s : State) : BitVec.ofNat 11 (s.memIdx.toNat + 1) = s.memIdx + 1 := by
  simp [BitVec.ofNat_add]

/-- The frame's last byte makes the packet ready (rule R167). -/
theorem State.advanceIndex_of_last {s : State} (last : s.memIdx + 1 = s.frameLen) :
    s.advanceIndex = { s with memIdx := s.memIdx + 1, memPend := false, pktReady := true } := by
  rw [State.advanceIndex, ofNat_succ_memIdx, if_pos last]

/-- After any other byte the framer asks for the next (rule R167). -/
theorem State.advanceIndex_of_more {s : State} (more : s.memIdx + 1 ≠ s.frameLen) :
    s.advanceIndex = { s with memIdx := s.memIdx + 1 } := by
  rw [State.advanceIndex, ofNat_succ_memIdx, if_neg more]

/-- Settles O13: the byte is one write of a canonical buffer, and the index moves on by one of its two ways. -/
theorem memoryByteFillsOneBufferByte : Obligations.MemoryByteFillsOneBufferByte := by
  intro s b form hs pend room
  have stored := (execMemByte_in_window b s ((memReq_iff s).mpr ⟨hs, pend⟩)).trans (if_pos room)
  refine ⟨_, stored, ?_, fun a other => ?_, ?_, ?_, fun last => ?_, fun more => ?_, ?_⟩
  · rw [State.advanceIndex_pktBuf, Memory.read_write_same _ _ _ form]
  · rw [State.advanceIndex_pktBuf, Memory.read_write_other _ _ _ _ form other]
  · rw [State.advanceIndex_pktBuf]
    exact Memory.write_wf _ _ _ form
  · rw [State.advanceIndex_memIdx, ofNat_succ_memIdx]
  · rw [State.advanceIndex_of_last (by exact last)]
    exact ⟨rfl, rfl⟩
  · rw [State.advanceIndex_of_more (by exact more)]
    exact ⟨pend, rfl⟩
  · rw [advanceIndex_frame]

/-! ## The last frame -/

/-- The ceiling of m / p from the two multiples of p that m lies between. -/
theorem ceil_div_eq_succ {m k p : Nat} (above : k * p < m) (upTo : m ≤ (k + 1) * p) : (m + p - 1) / p = k + 1 := by
  have first : (k + 1) * p = k * p + p := Nat.succ_mul k p
  have second : (k + 1 + 1) * p = (k + 1) * p + p := Nat.succ_mul (k + 1) p
  exact Nat.div_eq_of_lt_le (by omega) (by omega)

/-- The last frame begins inside the source buffer, taken as one byte where it is empty, and reaches its end (rules R58
and R162). -/
theorem Transfer.last_frame_bounds {s : State} (h : Transfer s) (payload : 1 ≤ s.params.payloadSize)
    (last : s.isLast = true) :
    s.offset.toNat < max s.srcLen.toNat 1 ∧ max s.srcLen.toNat 1 ≤ s.offset.toNat + s.params.payloadSize := by
  have reached : s.srcLen.toNat ≤ s.offset.toNat + s.params.payloadSize := by
    simpa [isLastAt, last] using h.lastFlag
  refine ⟨?_, by omega⟩
  by_cases empty : s.srcLen = 0
  · have offset := h.offsetLe
    rw [empty] at offset ⊢
    exact Nat.lt_succ_of_le offset
  · exact lt_max_of_lt_left (h.offsetLt empty)

/-- Settles O52: OFFSET is SEQ × PAYLOAD_SIZE, so the bounds of the last frame are multiples of PAYLOAD_SIZE. -/
theorem lastFrameHasTheLastNumber : Obligations.LastFrameHasTheLastNumber := by
  intro s inv busy last
  have transfer := inv.transfer busy
  obtain ⟨begins, ends⟩ := transfer.last_frame_bounds inv.legal.1.1 last
  rw [transfer.offsetOfSeq] at begins ends
  constructor
  · exact (ceil_div_eq_succ begins (by rwa [Nat.succ_mul])).symm
  · rw [transfer.frameLength, last, frameLenAt, if_pos rfl, transfer.offsetOfSeq]

/-! ## The error operations -/

theorem fatalArg_eq_setWidth (code : BitVec 4) : fatalArg code = code.setWidth 16 := by
  apply BitVec.eq_of_toNat_eq
  rw [fatalArg_toNat, BitVec.toNat_setWidth_of_le (by omega)]

/-- The fatal entry, with the STATE that it saves (rule R304). -/
theorem State.fatal_of_state {s : State} {st : ArqState} (hs : s.state = st) (code : BitVec 4) :
    s.fatal code =
      { s with errState := st, errCode := code, irqPend := true, state := .error,
               out := { s.out with evValid := true, evCode := 6, evArg := fatalArg code } } := by
  subst hs
  rfl

/-- Settles O57: each operation's guard is its window, in which its update is the fatal entry. -/
theorem errorOperationsComplete : Obligations.ErrorOperationsComplete := fun s =>
  ⟨congrArg _ (if_ctx_congr (memReq_iff s) (fun hs => State.fatal_of_state hs.1 6) fun _ => rfl),
    congrArg _ (if_ctx_congr (txValid_iff s) (fun _ => State.fatal_of_state rfl 4) fun _ => rfl),
    congrArg _ (if_ctx_congr (rxReady_iff s) (fun hs => State.fatal_of_state hs 5) fun _ => rfl)⟩

/-- The operation is a port's error operation inside the port's handshake, with its code (rules R168, R305 and R306). -/
def ErrorOperation (s : State) (i : Instr) (code : BitVec 4) : Prop :=
  (i = .memErr ∧ s.memReq = true ∧ code = 6) ∨ (i = .txErr ∧ s.txValid = true ∧ code = 4) ∨
    (i = .rxErr ∧ s.rxReady = true ∧ code = 5)

/-- Inside its handshake an error operation is the fatal entry. -/
theorem ErrorOperation.exec_eq {s : State} {i : Instr} {code : BitVec 4} (h : ErrorOperation s i code) :
    exec i s = .next (s.fatal code) := by
  rcases h with ⟨rfl, window, rfl⟩ | ⟨rfl, window, rfl⟩ | ⟨rfl, window, rfl⟩
  all_goals exact congrArg Host.Outcome.next (if_pos window)

/-- Settles O16: the fatal entry, field by field. -/
theorem errorInputsTakeTheFatalEntry : Obligations.ErrorInputsTakeTheFatalEntry := by
  intro s i code (h : ErrorOperation s i code)
  refine ⟨_, h.exec_eq, rfl, rfl, rfl, rfl, ?_, rfl⟩
  rw [State.fatal_of_state rfl, fatalArg_eq_setWidth]

/-! ## The error inputs of a cycle -/

/-- A port is in its handshake during a transfer alone. -/
theorem ErrorOperation.busy {s : State} {i : Instr} {code : BitVec 4} (h : ErrorOperation s i code) :
    s.busy = true := by
  rw [busy_eq_true_iff]
  rcases h with ⟨-, req, -⟩ | ⟨-, valid, -⟩ | ⟨-, ready, -⟩
  · have := (memReq_iff s).mp req
    tauto
  · have := (txValid_iff s).mp valid
    tauto
  · have := (rxReady_iff s).mp ready
    tauto

/-- The two lanes beside the state machine's leave the handshakes as at the start of the cycle. -/
theorem ErrorOperation.of_lanes {s u : State} {i : Instr} {code : BitVec 4} (h : ErrorOperation s i code)
    (lanes : Lanes s u) : ErrorOperation u i code := by
  have valid : u.txValid = s.txValid := by rw [State.txValid, lanes.state, lanes.pktReady, State.txValid]
  have ready : u.rxReady = s.rxReady := by rw [State.rxReady, lanes.state, State.rxReady]
  rwa [ErrorOperation, lanes.memReq, valid, ready]

/-- An error input in its window selects its port's error operation, whatever else the sample carries: the guards of
rule R191 read the error input before the port's success input. -/
theorem arqOp_of_error_input {s : State} {x : Sample} {code : BitVec 4}
    (h : (s.memReq = true ∧ pvMemErr x.pv = true ∧ code = 6) ∨
      (s.txValid = true ∧ s.memReq = false ∧ pvTxErr x.pv = true ∧ code = 4) ∨
      (s.rxReady = true ∧ pvRxErr x.pv = true ∧ code = 5)) :
    ∃ i, arqOp x s = some i ∧ ErrorOperation s i code := by
  rcases h with ⟨req, err, rfl⟩ | ⟨valid, noReq, err, rfl⟩ | ⟨ready, err, rfl⟩
  · obtain ⟨hs, pend⟩ := (memReq_iff s).mp req
    exact ⟨.memErr, by simp [arqOp_eq, hs, pend, err], .inl ⟨rfl, req, rfl⟩⟩
  · refine ⟨.txErr, ?_, .inr (.inl ⟨rfl, valid, rfl⟩)⟩
    rcases (txValid_iff s).mp valid with ⟨hs, offered⟩ | hs
    · have noPend : s.memPend = false := by simpa [State.memReq, hs] using noReq
      simp [arqOp_eq, hs, noPend, offered, err]
    · simp [arqOp_eq, hs, err]
  · exact ⟨.rxErr, by simp [arqOp_eq, (rxReady_iff s).mp ready, err], .inr (.inr ⟨rfl, ready, rfl⟩)⟩

/-- The fatal entry sets IRQ_PEND whatever the host lane left of it, so that of the lanes' effects IRQ_EN, ELAPSED and
the outputs remain (rules R304 and R307). -/
theorem Lanes.fatal_frame {s u : State} (lanes : Lanes s u) (code : BitVec 4) :
    u.fatal code =
      { s with state := .error, errCode := code, errState := u.state, irqPend := true, irqEn := u.irqEn,
               elapsed := u.elapsed, inputs := s.inputs.tail, cycle := s.cycle + 1, out := (u.fatal code).out } := by
  rw [lanes]
  rfl

/-- Settles O58: the error operation is selected by the state at the start of the cycle, and is the fatal entry on what
the two lanes before it leave. -/
theorem errorInputsEndTheTransferAtOnce : Obligations.ErrorInputsEndTheTransferAtOnce := by
  intro s code noReset h
  obtain ⟨i, selected, op⟩ := arqOp_of_error_input h
  obtain ⟨u, (lanes : Lanes s u), run⟩ := step_busy s noReset op.busy
  rw [selected, runOp_some, (op.of_lanes lanes).exec_eq] at run
  exact ⟨_, run, rfl, rfl, lanes.state, rfl, rfl, rfl, fatalArg_toNat code, lanes.sent, lanes.fatal_frame code⟩

end Sys2Proof.Machine
end

section
/-! The packet of the frame being sent (rules R192 and R201): while it is on offer and while the block waits for its
acknowledgment, no step changes PKT_BUF, and every datagram handed over is PKT_BUF's bytes. -/

namespace Sys2Proof.Machine

@[simp] theorem State.frameSetup_params (s : State) : s.frameSetup.params = s.params := rfl

/-- PKT_BUF is written by a payload byte that memory was asked for, and by the next frame's setup (rules R165 and
R167). -/
theorem Move.pktBuf_kept {s u t : State} {x : Sample} (m : Move s u x t) (noReq : s.memReq = false)
    (notConfirmed : s.state ≠ .confirmed) : t.pktBuf = u.pktBuf := by
  cases m with
  | byte hs pend => simp [(memReq_iff s).mpr ⟨hs, pend⟩] at noReq
  | nextFrame hs => exact absurd hs notConfirmed
  | hold | memFail | txFail | sent | resent | rxFail | accepted | mismatch | tick | expired | finished | gaveUp => simp

/-- No move writes the parameters (log 3). -/
theorem Move.params_kept {s u t : State} {x : Sample} (m : Move s u x t) : t.params = u.params := by
  cases m <;> simp

theorem packet_congr {s u : State} (buffer : u.pktBuf = s.pktBuf) (params : u.params = s.params) :
    u.packet = s.packet := by
  rw [State.packet, buffer, params, State.packet]

/-- What a move hands over is the packet (rules R193 and R194). -/
theorem Move.sent_eq_packet {s u t : State} (lanes : Lanes s u) (m : Move s u s.sample t) {bs : List Byte}
    (handed : t.out.sent = some bs) : bs = s.packet := by
  have quiet := lanes.sent
  have packet := packet_congr lanes.pktBuf lanes.params
  cases m with
  | sent | resent => exact (Option.some.inj handed).symm.trans packet
  | hold | memFail | byte | txFail | rxFail | accepted | mismatch | tick | expired | nextFrame | finished | gaveUp =>
    simp [quiet] at handed

/-- Settles O43: a packet is on offer while BUSY, outside CONFIRMED and with no byte asked for; a reset does not write
PKT_BUF either. -/
theorem offeredPacketIsStable : Obligations.OfferedPacketIsStable := by
  intro s t e noPend valid
  have offered := (txValid_iff s).mp valid
  cases hr : pvRst s.sample.pv with
  | true => rw [step_reset_next s t hr e]
  | false =>
    rcases step_cases s t hr e with ⟨hb, -⟩ | ⟨-, u, lanes, m⟩
    · have running : s.busy = true := by rw [busy_eq_true_iff]; tauto
      simp [hb] at running
    · have noReq : s.memReq = false := by simp [State.memReq, noPend]
      have notConfirmed : s.state ≠ .confirmed := by rcases offered with ⟨hs, -⟩ | hs <;> simp [hs]
      exact (m.pktBuf_kept noReq notConfirmed).trans lanes.pktBuf

/-- While a frame is retried: it waits for its acknowledgment, or for its retransmission (rule R201). -/
def State.Retrying (s : State) : Prop := s.state = .awaitingAck ∨ s.state = .retry

theorem State.Retrying.busy {s : State} (h : s.Retrying) : s.busy = true := by
  rw [busy_eq_true_iff]
  rcases h with hs | hs
  · exact .inr (.inl hs)
  · exact .inr (.inr (.inr (.inl hs)))

/-- One step of a frame's retries keeps the packet and hands over nothing else. -/
theorem retrying_step {s t : State} (hs : s.Retrying) (ht : t.Retrying) (e : step s = .next t) :
    t.pktBuf = s.pktBuf ∧ t.params = s.params ∧ ∀ bs, t.out.sent = some bs → bs = s.packet := by
  obtain ⟨u, lanes, m⟩ := step_busy_move e hs.busy ht.busy
  have outside : s.memReq = false ∧ s.state ≠ .confirmed := by rcases hs with hs | hs <;> simp [State.memReq, hs]
  exact ⟨(m.pktBuf_kept outside.1 outside.2).trans lanes.pktBuf, m.params_kept.trans lanes.params,
    fun bs => m.sent_eq_packet lanes⟩

/-- A run stops at its first step, or makes it and goes on from there. -/
theorem trace_succ_cases (n : Nat) (s : State) :
    trace (n + 1) s = [] ∨ ∃ t, step s = .next t ∧ trace (n + 1) s = t :: trace n t := by
  by_cases stops : ∀ t, step s ≠ .next t
  · exact .inl (trace_succ_of_stop stops)
  · obtain ⟨t, e⟩ := by simpa using stops
    exact .inr ⟨t, e, trace_succ e⟩

/-- Settles O53, by induction on the length of the run: the first step keeps the packet that the rest of the run
sends. -/
theorem everyResendIsIdentical : Obligations.EveryResendIsIdentical := by
  intro n
  induction n with
  | zero => exact fun s _ _ => List.forall_mem_nil _
  | succ n ih =>
    intro s hs stays
    rcases trace_succ_cases n s with stopped | ⟨t, e, run⟩
    · rw [stopped]
      exact List.forall_mem_nil _
    · rw [run] at stays ⊢
      obtain ⟨ht, rest⟩ := List.forall_mem_cons.mp stays
      obtain ⟨buffer, params, sent⟩ := retrying_step hs ht e
      refine List.forall_mem_cons.mpr ⟨⟨buffer, sent⟩, fun u hu => ?_⟩
      obtain ⟨later, resent⟩ := ih t ht rest u hu
      exact ⟨later.trans buffer, fun bs handed => (resent bs handed).trans (packet_congr buffer params)⟩

end Sys2Proof.Machine
end

section
/-! The retransmissions of the last frame (rules R200, R203 and R211): the account of LAST_ATTEMPTS against the RESEND
events over one step, and its sum over a run that stays BUSY. -/

namespace Sys2Proof.Machine

/-- 1 where the last negative outcome has no RESEND behind it: in RETRY it is still to be made, in ABANDONED none
comes. -/
def State.unanswered (s : State) : Nat := if s.state = .retry ∨ s.state = .abandoned then 1 else 0

/-- The last frame, once its packet has been sent: what a run that stays BUSY keeps from the first wait on. -/
structure LastFrameOut (p : Params) (s : State) : Prop where
  inv    : BlockInv s
  params : s.params = p
  busy   : s.busy = true
  last   : s.isLast = true
  out    : s.state ≠ .awaitingSend

@[simp] theorem State.negative_isLast (s : State) : s.negative.isLast = s.isLast := by
  rw [negative_frame]

/-- Where a negative outcome ends: only the last frame is given up (rules R200 and R208). -/
theorem State.negative_state (s : State) :
    s.negative.state = .retry ∨ (s.isLast = true ∧ s.negative.state = .abandoned) := by
  rcases negative_cases s with ⟨_, e⟩ | ⟨_, _, e⟩ | ⟨last, _, e⟩ <;> rw [e]
  · exact .inl rfl
  · exact .inl rfl
  · exact .inr ⟨last, rfl⟩

theorem State.negative_state_ne (s : State) {st : ArqState} (retry : st ≠ .retry) (abandoned : st ≠ .abandoned) :
    s.negative.state ≠ st := by
  rcases s.negative_state with e | ⟨-, e⟩
  · exact e ▸ retry.symm
  · exact e ▸ abandoned.symm

/-- A negative outcome of the last frame counts one attempt, with no RESEND behind it yet (rule R200). -/
theorem State.negative_attempts {s : State} (last : s.isLast = true) (h : s.lastAttempts.toNat + 1 < 2 ^ 16) :
    s.negative.lastAttempts.toNat = s.lastAttempts.toNat + s.negative.unanswered := by
  rcases negative_cases s with ⟨notLast, _⟩ | ⟨_, _, e⟩ | ⟨_, _, e⟩
  · simp [last] at notLast
  · simp [e, State.unanswered, sat_succ _ h]
  · simp [e, State.unanswered, sat_succ _ h]

/-- A move that goes on BUSY stays with the last frame: only its confirmation leaves it, and ends the transfer. -/
theorem Move.last_frame_kept {s u t : State} (lanes : Lanes s u) (m : Move s u s.sample t) (ht : t.busy = true)
    (last : s.isLast = true) (out : s.state ≠ .awaitingSend) : t.isLast = true ∧ t.state ≠ .awaitingSend := by
  have flag := lanes.isLast.trans last
  have state := lanes.state
  cases m with
  | hold | tick => exact ⟨flag, state ▸ out⟩
  | byte hs | sent hs => exact absurd hs out
  | resent | accepted => exact ⟨flag, by simp⟩
  | mismatch | expired => exact ⟨by simpa using flag, State.negative_state_ne _ nofun nofun⟩
  | nextFrame _ notLast => simp [last] at notLast
  | memFail | txFail | rxFail | finished | gaveUp => simp [State.busy, ArqState.busy] at ht

/-- The next attempt of the last frame is counted without saturation (rules R29 and R200). -/
theorem BlockInv.next_attempt_counts {s : State} (h : BlockInv s) (hs : s.state = .awaitingAck) :
    s.lastAttempts.toNat + 1 < 2 ^ 16 := by
  obtain ⟨-, -, budget, -⟩ := h.while_awaiting_ack hs
  have limit := h.legal.1.2.2
  omega

/-- One move's account for the last frame: an attempt counted by LAST_ATTEMPTS is answered by a RESEND, or not yet. -/
theorem Move.attempt_account {p : Params} {s u t : State} (lanes : Lanes s u) (m : Move s u s.sample t)
    (ht : t.busy = true) (h : LastFrameOut p s) :
    t.lastAttempts.toNat + s.unanswered = s.lastAttempts.toNat + t.shows 3 + t.unanswered := by
  have quiet := lanes.evValid
  have state := lanes.state
  have attempts := lanes.lastAttempts
  have flag := lanes.isLast.trans h.last
  cases m with
  | hold | tick => simp [State.unanswered, State.shows, quiet, state, attempts]
  | byte hs | sent hs => exact absurd hs h.out
  | resent hs | accepted hs => simp [State.unanswered, State.shows, hs, attempts]
  | mismatch hs =>
    rw [State.negative_attempts flag (attempts ▸ h.inv.next_attempt_counts hs)]
    simp [State.unanswered, State.shows, hs, quiet, attempts]
  | expired hs =>
    rw [State.negative_attempts (by exact flag) (by simpa [attempts] using h.inv.next_attempt_counts hs)]
    simp [State.unanswered, State.shows, hs, attempts]
  | nextFrame _ notLast => simp [h.last] at notLast
  | memFail | txFail | rxFail | finished | gaveUp => simp [State.busy, ArqState.busy] at ht

/-- One step of the last frame's run goes on with it, and its move's account holds. -/
theorem LastFrameOut.step_account {p : Params} {s t : State} (h : LastFrameOut p s) (ht : t.busy = true)
    (e : step s = .next t) :
    LastFrameOut p t ∧ t.lastAttempts.toNat + s.unanswered = s.lastAttempts.toNat + t.shows 3 + t.unanswered := by
  obtain ⟨u, lanes, m⟩ := step_busy_move e h.busy ht
  obtain ⟨last, out⟩ := m.last_frame_kept lanes ht h.last h.out
  have params := (m.params_kept.trans lanes.params).trans h.params
  exact ⟨⟨everyStepKeepsTheInvariant s t h.inv e, params, ht, last, out⟩, m.attempt_account lanes ht h⟩

/-- The account of a run, with its start as the last state where no step was made. -/
theorem LastFrameOut.trace_account {p : Params} (n : Nat) (s : State) (h : LastFrameOut p s)
    (busy : ∀ u ∈ trace n s, u.busy = true) :
    LastFrameOut p ((trace n s).getLastD s) ∧
      ((trace n s).getLastD s).lastAttempts.toNat + s.unanswered =
        s.lastAttempts.toNat + countEvents 3 (trace n s) + ((trace n s).getLastD s).unanswered := by
  induction n generalizing s with
  | zero => exact ⟨h, rfl⟩
  | succ n ih =>
    rcases trace_succ_cases n s with stopped | ⟨t, e, run⟩
    · rw [stopped]
      exact ⟨h, rfl⟩
    · rw [run] at busy ⊢
      obtain ⟨ht, rest⟩ := List.forall_mem_cons.mp busy
      obtain ⟨next, first⟩ := h.step_account ht e
      obtain ⟨final, later⟩ := ih t next rest
      rw [List.getLastD_cons, countEvents_cons]
      exact ⟨final, by omega⟩

/-- The RESEND events behind LAST_ATTEMPTS are within the limit, and meet it where one attempt more gives the frame up
(rules R29, R200 and R211). -/
theorem LastFrameOut.resends_limit {p : Params} {s : State} (h : LastFrameOut p s) {resends : Nat}
    (account : s.lastAttempts.toNat = resends + s.unanswered) :
    resends ≤ p.lastRetryLimit ∧
      (s.state = .abandoned → resends = p.lastRetryLimit ∧ s.lastAttempts.toNat = p.lastRetryLimit + 1) := by
  have transfer := h.inv.transfer h.busy
  by_cases given : s.state = .abandoned
  · obtain ⟨-, attempts⟩ := transfer.exhausted given
    have one : s.unanswered = 1 := if_pos (.inr given)
    rw [h.params] at attempts
    exact ⟨by omega, fun _ => ⟨by omega, attempts⟩⟩
  · have attempts := transfer.budget given
    rw [h.params] at attempts
    exact ⟨by omega, fun hs => absurd hs given⟩

/-- Settles O54: the account of the run at its last state, where the invariant limits LAST_ATTEMPTS. -/
theorem lastFrameIsResentExactlyToItsLimit : Obligations.LastFrameIsResentExactlyToItsLimit := by
  intro n s inv hs last attempts busy
  have start : LastFrameOut s.params s := ⟨inv, rfl, by simp [busy_eq_true_iff, hs], last, by simp [hs]⟩
  have answered : s.unanswered = 0 := by simp [State.unanswered, hs]
  obtain ⟨final, account⟩ := start.trace_account n s busy
  obtain ⟨within, exhausted⟩ := final.resends_limit (resends := countEvents 3 (trace n s))
    (by simpa [answered, attempts] using account)
  refine ⟨within, fun t ends given => ?_⟩
  rw [List.getLastD_eq_getLast?, ends] at exhausted
  exact exhausted given

end Sys2Proof.Machine
end

section
/-! The state machine's operations one by one (rules R193, R194, R198, R199, R202 and R203): what each answers in its
window, and what it leaves unchanged. -/

namespace Sys2Proof.Machine

/-! ## Transmit completions -/

/-- The timer's load is the low 31 bits of TIMEOUT_MS (rule R241). -/
theorem timerLoad_toNat_mod (v : BitVec 32) : (timerLoad v).toNat = v.toNat % 2 ^ 31 := by
  rw [timerLoad, BitVec.extractLsb'_toNat, Nat.shiftRight_zero]

/-- Settles O17: in its window each operation hands the packet over, emits its event and goes on waiting. -/
theorem transmitCompletionSendsAndWaits : Obligations.TransmitCompletionSendsAndWaits := by
  intro s i code h
  have completed : exec i s = .next (s.send.emit code s.seq).awaitAck := by
    rcases h with ⟨rfl, hs, ready, rfl⟩ | ⟨rfl, hs, rfl⟩
    · exact congrArg Host.Outcome.next (if_pos (by simp [hs, ready]))
    · exact congrArg Host.Outcome.next (if_pos (by simp [hs]))
  exact ⟨_, s.packet, completed, packet_length s, packet_getElem s, timerLoad_toNat_mod _, rfl, rfl, rfl⟩

/-! ## Acknowledgments -/

/-- A datagram's number is its first two bytes, big-endian (rules R87 and R113). -/
theorem ackv_toNat (d : Datagram) : d.ackv.toNat = d.b0.toNat * 256 + d.b1.toNat := by
  rw [Datagram.ackv, BitVec.toNat_append, ← Nat.shiftLeft_add_eq_or_of_lt d.b1.isLt, Nat.shiftLeft_eq]

/-- The match of rule R197 on the datagram's length and number. -/
theorem acknowledges_iff (d : Datagram) (p : Params) (seq : BitVec 16) :
    d.acknowledges p seq = true ↔ d.length p = p.ackSize ∧ d.b0.toNat * 256 + d.b1.toNat = seq.toNat := by
  rw [← ackv_toNat, ← BitVec.toNat_eq]
  simp [Datagram.acknowledges]

/-- Settles O18: the guard of RX_ACK_MATCH is the match of rule R197. -/
theorem matchingAcknowledgmentConfirms : Obligations.MatchingAcknowledgmentConfirms := by
  intro s d hs length number
  have matched := (acknowledges_iff d s.params s.seq).mpr ⟨length, number⟩
  exact congrArg Host.Outcome.next (if_pos (by simp [(rxReady_iff s).mpr hs, matched]))

/-- Settles O19: the guard of RX_MISMATCH is the match's negation. -/
theorem mismatchIsANegativeOutcome : Obligations.MismatchIsANegativeOutcome := by
  intro s d hs other
  have mismatched : d.acknowledges s.params s.seq = false :=
    Bool.eq_false_iff.mpr fun h => other ((acknowledges_iff d s.params s.seq).mp h)
  refine ⟨s.negative, congrArg Host.Outcome.next (if_pos ?_), negative_meets_outcome s, negative_frame s⟩
  simp [(rxReady_iff s).mpr hs, mismatched]

/-! ## CONFIRM -/

/-- The state from which CONFIRM of a frame that is not the last sets up the next one: SEQ and OFFSET name it (rule
R202). -/
def State.nextFrameDue (s : State) : State :=
  { s with seq := nextSeq s.params s.seq, offset := BitVec.ofNat 32 (s.offset.toNat + s.params.payloadSize) }

theorem exec_confirm_not_last {s : State} (hs : s.state = .confirmed) (notLast : s.isLast = false) :
    exec .confirm s = .next s.nextFrameDue.frameSetup := by
  simp [exec, execConfirm, hs, notLast, State.nextFrameDue]

theorem exec_confirm_last {s : State} (hs : s.state = .confirmed) (last : s.isLast = true) :
    exec .confirm s = .next { s with seq := nextSeq s.params s.seq,
                                     offset := BitVec.ofNat 32 (s.offset.toNat + s.frameLen.toNat) }.complete := by
  simp [exec, execConfirm, hs, last]

/-- A frame's length is PAYLOAD_SIZE or what is left of the source (rules R162 and R163). -/
theorem frameLenAt_eq_min (p : Params) (offset len : Nat) :
    frameLenAt p offset len (isLastAt p offset len) = min p.payloadSize (len - offset) := by
  by_cases last : len ≤ offset + p.payloadSize
  · rw [isLastAt, decide_eq_true last, frameLenAt, if_pos rfl]
    omega
  · rw [isLastAt, decide_eq_false last, frameLenAt, if_neg Bool.false_ne_true]
    omega

/-- After a frame that is not the last, the next one begins inside the source buffer (rule R162). -/
theorem Transfer.next_offset_lt {s : State} (h : Transfer s) (notLast : s.isLast = false) :
    s.offset.toNat + s.params.payloadSize < s.srcLen.toNat := by
  simpa [isLastAt, notLast] using h.lastFlag

/-- The next frame's OFFSET and SEQ do not wrap (rules R58 and R202). -/
theorem nextFrameDue_toNat {s : State} (h : Transfer s) (due : FrameDue s.nextFrameDue) (notLast : s.isLast = false) :
    s.nextFrameDue.offset.toNat = s.offset.toNat + s.params.payloadSize ∧
      s.nextFrameDue.seq.toNat = s.seq.toNat + 1 := by
  have begins := h.next_offset_lt notLast
  have offset : s.nextFrameDue.offset.toNat = s.offset.toNat + s.params.payloadSize := by
    rw [State.nextFrameDue, BitVec.toNat_ofNat, Nat.mod_eq_of_lt (begins.trans s.srcLen.isLt)]
  refine ⟨offset, Nat.eq_of_mul_eq_mul_right due.legal.1.1 ?_⟩
  calc s.nextFrameDue.seq.toNat * s.params.payloadSize
      = s.nextFrameDue.offset.toNat := due.offsetOfSeq.symm
    _ = s.offset.toNat + s.params.payloadSize := offset
    _ = (s.seq.toNat + 1) * s.params.payloadSize := by rw [h.offsetOfSeq, Nat.succ_mul]

/-- A frame that has just been set up with payload asks memory for its first byte (rules R37 and R161). -/
theorem FrameDue.asks_for_payload {s : State} (due : FrameDue s) (more : s.offset.toNat < s.srcLen.toNat) :
    s.frameSetup.memPend = true ∧ s.frameSetup.pktReady = false := by
  have length : s.frameSetup.frameLen.toNat = min s.params.payloadSize (s.srcLen.toNat - s.offset.toNat) :=
    (due.frameSetup.transfer rfl).frameLength.trans (frameLenAt_eq_min ..)
  have payload := due.legal.1.1
  have nonempty : s.frameSetup.frameLen ≠ 0 := by
    intro empty
    have none : s.frameSetup.frameLen.toNat = 0 := congrArg BitVec.toNat empty
    omega
  exact ⟨bne_iff_ne.mpr nonempty, beq_eq_false_iff_ne.mpr nonempty⟩

/-- Settles O22: the next frame is due where CONFIRM sets it up, and its buffer is the header buffer. -/
theorem confirmFramesTheNextFrame : Obligations.ConfirmFramesTheNextFrame := by
  intro s inv hs notLast
  have due : FrameDue s.nextFrameDue := frameDue_of_confirm inv hs notLast
  have transfer := inv.transfer (by simp [busy_eq_true_iff, hs])
  obtain ⟨offset, seq⟩ := nextFrameDue_toNat transfer due notLast
  have begins : s.nextFrameDue.offset.toNat < s.srcLen.toNat := offset ▸ transfer.next_offset_lt notLast
  obtain ⟨pend, ready⟩ := due.asks_for_payload begins
  have buffer := headerBuffer_read s.nextFrameDue.seq s.nextFrameDue.frameSetup.isLast
  refine ⟨_, exec_confirm_not_last hs notLast, seq, offset, decide_eq_true_iff, ?_, rfl, rfl, pend, ready, rfl,
    buffer 0, buffer 1, buffer 2, fun i hi => (buffer i).trans ?_, rfl⟩
  · exact (due.frameSetup.transfer rfl).frameLength.trans (frameLenAt_eq_min ..)
  · simp [headerBytes, hi]

/-- The last frame's bytes reach the end of the source (rules R27 and R163). -/
theorem Transfer.last_frame_end {s : State} (h : Transfer s) (last : s.isLast = true) :
    s.offset.toNat + s.frameLen.toNat = s.srcLen.toNat := by
  have offset := h.offsetLe
  rw [h.frameLength, last, frameLenAt, if_pos rfl]
  omega

/-- Settles O23: OFFSET moves on over the last frame, to the end of the source. -/
theorem confirmCompletesTheLastFrame : Obligations.ConfirmCompletesTheLastFrame := by
  intro s inv hs last
  have ends := (inv.transfer (by simp [busy_eq_true_iff, hs])).last_frame_end last
  have offset : BitVec.ofNat 32 (s.offset.toNat + s.frameLen.toNat) = s.srcLen := by
    rw [ends, BitVec.ofNat_toNat, BitVec.setWidth_eq]
  exact ⟨_, exec_confirm_last hs last, nextSeq_toNat _ _ inv.legal, (congrArg BitVec.toNat offset).trans ends.symm,
    offset, rfl, rfl, rfl, rfl⟩

/-! ## ABANDON -/

/-- Settles O24: the selector's STATE bits, and so STATE alone, select ABANDON, whose guard is that STATE. -/
theorem abandonCompletesWithoutAdvancing : Obligations.AbandonCompletesWithoutAdvancing := by
  refine ⟨fun sel bits => ?_, fun s hs => ⟨fun x => ?_, ?_⟩⟩
  · rw [decodeState_abandon, selState, bits]
    rfl
  · rw [arqOp_eq, hs]
  · exact congrArg Host.Outcome.next (if_pos (by simp [hs]))

end Sys2Proof.Machine
end

section
/-! The transition table of the state machine (rules R204 and R210): every non-reset step is one of its rows or keeps
STATE with no event; and which rows enter CONFIRMED and ABANDONED (rules R207 and R208). -/

namespace Sys2Proof.Machine

/-! ## The conditions of the rows -/

/-- No row of the table that starts BUSY has its condition met (rules R204 and R210). -/
def NoBusyRow (s : State) (x : Sample) : Prop :=
  (s.state = .awaitingSend → s.memPend = true → pvMemErr x.pv = false) ∧
  (s.state = .awaitingSend ∧ s.memPend = false ∧ s.pktReady = true ∨ s.state = .retry →
    pvTxErr x.pv = false ∧ pvTxDone x.pv = false) ∧
  (s.state = .awaitingAck → pvRxErr x.pv = false ∧ pvRxValid x.pv = false ∧
    (pvMsTick x.pv = true → 1 < s.timer.toNat)) ∧
  s.state ≠ .confirmed ∧ s.state ≠ .abandoned

/-- Where no operation is selected there is none. -/
theorem NoBusyRow.of_no_operation {s : State} {x : Sample} (h : arqOp x s = none) : NoBusyRow s x := by
  rw [arqOp_eq] at h
  cases hs : s.state with
  | idle | done | error => simp [NoBusyRow, hs]
  | confirmed | abandoned => simp [hs] at h
  | awaitingSend =>
    cases pend : s.memPend with
    | true =>
      have silent : pvMemErr x.pv = false ∧ pvMemRspValid x.pv = false := by simpa [hs, pend, ite_eq_iff] using h
      simp [NoBusyRow, hs, pend, silent]
    | false =>
      have silent : s.pktReady = true → pvTxErr x.pv = false ∧ pvTxDone x.pv = false := by
        simpa [hs, pend, ite_eq_iff] using h
      simpa [NoBusyRow, hs, pend] using silent
  | awaitingAck =>
    have silent : pvRxErr x.pv = false ∧ pvRxValid x.pv = false ∧ pvMsTick x.pv = false := by
      simpa [hs, ite_eq_iff] using h
    simp [NoBusyRow, hs, silent]
  | retry =>
    have silent : pvTxErr x.pv = false ∧ pvTxDone x.pv = false := by simpa [hs, ite_eq_iff] using h
    simp [NoBusyRow, hs, silent]

/-- A timeout is a negative outcome: TIMER and the event make no difference to it (rules R200 and R243). -/
theorem expiry_meets_outcome (u : State) : negativeOutcome u ({ u with timer := 0 }.emit 2 u.seq).negative :=
  negative_meets_outcome ({ u with timer := 0 }.emit 2 u.seq)

/-- `negativeOutcome` reads of its first state what the lanes leave as it is. -/
theorem Lanes.outcome_at_start {s u t : State} (lanes : Lanes s u) (h : negativeOutcome u t) : negativeOutcome s t := by
  simpa [negativeOutcome, lanes.isLast, lanes.lastAttempts, lanes.retx, lanes.params] using h

/-- A step that starts not BUSY is a START row, or none (rules R204, R276 and R304). -/
theorem not_busy_row {s t : State} (hb : s.busy = false)
    (e : runOp (hostOp s.sample) (s.openCycle s.sample) = .next t) :
    (commandsStart s.sample = false ∧ t.state = s.state ∧ t.out.evValid = false) ∨
    (commandsStart s.sample = true ∧ s.check ≠ 0 ∧ t.state = .error ∧ t.out.evValid = true ∧ t.out.evCode = 6 ∧
      t.out.evArg.toNat = s.check.toNat ∧ t.errCode = s.check) ∨
    (commandsStart s.sample = true ∧ s.check = 0 ∧ t.state = .awaitingSend ∧ t.out.evValid = false) := by
  rcases host_lane_not_busy _ (s.openCycle s.sample) t hb e with
    ⟨noStart, ht⟩ | ⟨start, w, -, ⟨failed, ht⟩ | ⟨passed, ht⟩⟩
  · exact .inl ⟨noStart, by rw [ht]; rfl, by rw [ht]; rfl⟩
  · rw [ht]
    exact .inr (.inl ⟨start, failed, rfl, rfl, rfl, fatalArg_toNat _, rfl⟩)
  · rw [ht]
    exact .inr (.inr ⟨start, passed, rfl, rfl⟩)

/-- Settles O34: the START rows are those of a cycle that starts not BUSY, and every other row is a move;
each case says by its `right`s which row of the table it is. -/
theorem stepsFollowTheTransitionTable : Obligations.StepsFollowTheTransitionTable := by
  intro s t e hr
  rcases step_cases s t hr e with ⟨hb, e⟩ | ⟨hb, u, lanes, m⟩
  · rcases not_busy_row hb e with ⟨noStart, state, quiet⟩ | failed | passed
    · exact .inl ⟨state, quiet, fun _ => noStart, NoBusyRow.of_no_operation (arqOp_not_busy _ _ hb)⟩
    · exact .inr (.inl ⟨hb, failed⟩)
    · exact .inr (.inr (.inl ⟨hb, passed⟩))
  · have quiet := lanes.evValid
    have seq := lanes.seq
    have kept (state : t.state = u.state) (silent : t.out.evValid = false) (noRow : NoBusyRow s s.sample) :
        t.state = s.state ∧ t.out.evValid = false ∧ (s.busy = false → commandsStart s.sample = false) ∧
          NoBusyRow s s.sample :=
      ⟨state.trans lanes.state, silent, by simp [hb], noRow⟩
    cases m with
    | hold none => exact .inl (kept rfl quiet (.of_no_operation none))
    | byte hs pend noErr =>
      exact .inl (kept (by simp) (by simpa using quiet) (by simp [NoBusyRow, hs, pend, noErr]))
    | tick hs noErr noData _ left =>
      exact .inl (kept rfl quiet (by simp [NoBusyRow, hs, noErr, noData, left]))
    | memFail hs pend err =>
      iterate 3 right
      exact .inl ⟨hs, pend, err, rfl, rfl, rfl, rfl⟩
    | txFail hs err =>
      iterate 4 right
      exact .inl ⟨by tauto, err, rfl, rfl, rfl, rfl⟩
    | sent hs _ ready noErr done =>
      iterate 5 right
      exact .inl ⟨hs, ready, noErr, done, rfl, rfl, rfl, seq⟩
    | rxFail hs err =>
      iterate 6 right
      exact .inl ⟨hs, err, rfl, rfl, rfl, rfl⟩
    | accepted hs noErr valid matched =>
      iterate 7 right
      exact .inl ⟨hs, noErr, valid, matched, rfl, rfl, rfl, seq⟩
    | mismatch hs noErr valid other =>
      iterate 8 right
      exact .inl ⟨hs, noErr, valid, other, by simpa using quiet, lanes.outcome_at_start (negative_meets_outcome u)⟩
    | expired hs noErr noData tick last =>
      iterate 9 right
      exact .inl ⟨hs, noErr, noData, tick, last, lanes.outcome_at_start (expiry_meets_outcome u), by simp, by simp,
        by simpa using seq⟩
    | nextFrame hs notLast =>
      iterate 10 right
      exact .inl ⟨hs, notLast, rfl, quiet⟩
    | finished hs last =>
      iterate 11 right
      exact .inl ⟨hs, last, rfl, quiet⟩
    | resent hs noErr done =>
      iterate 12 right
      exact .inl ⟨hs, noErr, done, rfl, rfl, rfl, seq⟩
    | gaveUp hs =>
      iterate 13 right
      exact ⟨hs, rfl, rfl, rfl, seq⟩

/-! ## The entries of CONFIRMED and ABANDONED -/

/-- A step that answers a BUSY state other than AWAITING_SEND is a move: START begins in AWAITING_SEND. -/
theorem move_of_busy {s t : State} (e : step s = .next t) (ht : t.busy = true) (notFirst : t.state ≠ .awaitingSend) :
    pvRst s.sample.pv = false ∧ ∃ u, Lanes s u ∧ Move s u s.sample t := by
  cases hr : pvRst s.sample.pv with
  | true =>
    rw [step_reset_next s t hr e] at ht
    cases ht
  | false =>
    rcases step_cases s t hr e with ⟨hb, e⟩ | ⟨-, move⟩
    · rcases not_busy_row hb e with ⟨-, state, -⟩ | ⟨-, -, state, -⟩ | ⟨-, -, state, -⟩
      · have idle : t.busy = false := by rw [State.busy, state]; exact hb
        simp [idle] at ht
      · simp [State.busy, ArqState.busy, state] at ht
      · exact absurd state notFirst
    · exact ⟨rfl, move⟩

/-- Settles O35: of the moves, the acceptance alone answers CONFIRMED. -/
theorem onlyAMatchEntersConfirmed : Obligations.OnlyAMatchEntersConfirmed := by
  intro s t e ht
  obtain ⟨noReset, u, lanes, m⟩ := move_of_busy e (by simp [State.busy, ArqState.busy, ht]) (by simp [ht])
  cases m with
  | accepted hs noErr valid matched =>
    exact ⟨hs, noReset, noErr, valid, (acknowledges_iff _ _ _).mp matched⟩
  | hold none => simp [arqOp_confirmed _ s (lanes.state.symm.trans ht)] at none
  | byte hs | tick hs => simp [lanes.state, hs] at ht
  | mismatch | expired => exact absurd ht (State.negative_state_ne _ nofun nofun)
  | memFail | txFail | sent | resent | rxFail | nextFrame | finished | gaveUp => simp at ht

theorem State.isLast_of_negative_abandoned {s : State} (h : s.negative.state = .abandoned) : s.isLast = true := by
  rcases s.negative_state with retry | ⟨last, -⟩
  · simp [h] at retry
  · exact last

/-- Settles O45: ABANDONED is entered by a negative outcome of the last frame alone. -/
theorem onlyTheLastFrameIsAbandoned : Obligations.OnlyTheLastFrameIsAbandoned := by
  intro s t e ht
  obtain ⟨-, u, lanes, m⟩ := move_of_busy e (by simp [State.busy, ArqState.busy, ht]) (by simp [ht])
  cases m with
  | hold => exact .inl (lanes.state.symm.trans ht)
  | byte hs | tick hs => simp [lanes.state, hs] at ht
  | mismatch | expired =>
    have last := State.isLast_of_negative_abandoned ht
    exact .inr (lanes.isLast.symm.trans last)
  | memFail | txFail | sent | resent | rxFail | accepted | nextFrame | finished | gaveUp => simp at ht

end Sys2Proof.Machine
end

section
/-! The timeout controller and the elapsed-time counter (rules R242, R243 and R246): the three tick operations in their
windows, what a step adds to ELAPSED, and the wait for an acknowledgment as a count of ticks (rule R247). -/

namespace Sys2Proof.Machine

/-! ## The tick operations -/

theorem exec_msTick_waiting {s : State} (hs : s.state = .awaitingAck) (left : 1 < s.timer.toNat) :
    exec .msTick s = .next { s with timer := s.timer - 1 } :=
  congrArg Host.Outcome.next (if_pos (by simp [hs, left]))

theorem exec_tickExpire_waiting {s : State} (hs : s.state = .awaitingAck) (last : s.timer.toNat ≤ 1) :
    exec .tickExpire s = .next ({ s with timer := 0 }.emit 2 s.seq).negative :=
  congrArg Host.Outcome.next (if_pos (by simp [hs, last]))

theorem exec_tickElapsed_busy {s : State} (hb : s.busy = true) :
    exec .tickElapsed s = .next { s with elapsed := sat 32 (s.elapsed.toNat + 1) } :=
  congrArg Host.Outcome.next (if_pos hb)

/-- TIMER with time left goes down by one without wrapping (rule R242). -/
theorem timer_sub_one_toNat {timer : BitVec 31} (left : 1 < timer.toNat) : (timer - 1).toNat + 1 = timer.toNat := by
  have one_le : (1 : BitVec 31).toNat ≤ timer.toNat := left.le
  rw [BitVec.toNat_sub_of_le one_le]
  exact Nat.sub_add_cancel left.le

/-- Settles O21: each operation in its window, with the arithmetic of its counter. -/
theorem ticksCount : Obligations.TicksCount :=
  ⟨fun _ hs left => ⟨_, exec_msTick_waiting hs left, timer_sub_one_toNat left, rfl⟩,
    fun _ hb => ⟨_, exec_tickElapsed_busy hb, sat_toNat .., rfl⟩⟩

@[simp] theorem State.negative_timer (s : State) : s.negative.timer = s.timer := by
  rw [negative_frame]
@[simp] theorem State.negative_elapsed (s : State) : s.negative.elapsed = s.elapsed := by
  rw [negative_frame]

/-- Settles O20: TIMER and the event port are written before the negative outcome, which leaves both. -/
theorem expiryIsANegativeOutcome : Obligations.ExpiryIsANegativeOutcome := by
  intro s hs last
  exact ⟨_, exec_tickExpire_waiting hs last, expiry_meets_outcome s, State.negative_timer _, State.negative_out _,
    by rw [negative_frame]; rfl⟩

/-! ## ELAPSED over a step -/

@[simp] theorem State.advanceIndex_elapsed (s : State) : s.advanceIndex.elapsed = s.elapsed := by
  rw [advanceIndex_frame]
@[simp] theorem State.frameSetup_elapsed (s : State) : s.frameSetup.elapsed = s.elapsed := rfl

/-- No operation of the state machine writes ELAPSED (rule R246). -/
theorem Move.elapsed_kept {s u t : State} {x : Sample} (m : Move s u x t) : t.elapsed = u.elapsed := by
  cases m <;> simp

/-- A cycle that starts not BUSY counts no tick: START clears ELAPSED, every other access keeps it (rules R246 and
R276). -/
theorem not_busy_elapsed {s t : State} (hb : s.busy = false)
    (e : runOp (hostOp s.sample) (s.openCycle s.sample) = .next t) :
    t.elapsed = if commandsStart s.sample then 0 else s.elapsed := by
  rcases host_lane_not_busy _ (s.openCycle s.sample) t hb e with
    ⟨noStart, ht⟩ | ⟨start, w, -, ⟨-, ht⟩ | ⟨-, ht⟩⟩
  · rw [ht, noStart]
    rfl
  · rw [ht, start]
    rfl
  · rw [ht, start]
    rfl

/-- Settles O41, by the three kinds of step; while BUSY the tick's lane alone writes ELAPSED. -/
theorem elapsedCountsBusyTicks : Obligations.ElapsedCountsBusyTicks := by
  intro s t e
  cases hr : pvRst s.sample.pv with
  | true =>
    rw [step_reset_next s t hr e]
    simp [State.reset]
  | false =>
    rcases step_cases s t hr e with ⟨hb, e⟩ | ⟨hb, u, lanes, m⟩
    · simpa [hb] using not_busy_elapsed hb e
    · have counted := m.elapsed_kept.trans lanes.elapsed
      cases tick : pvMsTick s.sample.pv <;> simp [hb, counted, tick, sat_toNat]

/-! ## One cycle of the wait for an acknowledgment -/

/-- A cycle without reset, datagram and receive error: a tick is all that can act on a block that waits. -/
def OnlyTicks (x : Sample) : Prop := pvRst x.pv = false ∧ pvRxErr x.pv = false ∧ pvRxValid x.pv = false

theorem Lanes.inputs {s u : State} (h : Lanes s u) : u.inputs = s.inputs.tail := by rw [h]; rfl

theorem State.sample_of_inputs {s : State} {x : Sample} {xs : List Sample} (h : s.inputs = x :: xs) : s.sample = x := by
  rw [State.sample, h]

/-- While the receiver is silent, the tick decides between MS_TICK, TICK_EXPIRE and nothing (rule R191). -/
theorem arqOp_waiting {x : Sample} {s : State} (hs : s.state = .awaitingAck) (quiet : OnlyTicks x) :
    arqOp x s =
      if pvMsTick x.pv then if 1 < s.timer.toNat then some .msTick else some .tickExpire else none := by
  obtain ⟨-, noErr, noData⟩ := quiet
  simp [arqOp_eq, hs, noErr, noData]

/-- Such a cycle is the operation of the state machine, after the other two lanes. -/
theorem step_waiting {s : State} (hs : s.state = .awaitingAck) (quiet : OnlyTicks s.sample) :
    ∃ u, Lanes s u ∧ step s = runOp (arqOp s.sample s) u :=
  step_busy s quiet.1 (by simp [busy_eq_true_iff, hs])

/-- The block waits in `t`, with the sequence number of `s`, the samples `rest` still to come, and `n` ticks less on
TIMER than in `s`. -/
structure StillWaits (s t : State) (n : Nat) (rest : List Sample) : Prop where
  state : t.state = .awaitingAck
  timer : t.timer.toNat + n = s.timer.toNat
  seq : t.seq = s.seq
  inputs : t.inputs = rest

theorem StillWaits.trans {s t u : State} {m n : Nat} {xs ys : List Sample} (h : StillWaits s t m xs)
    (h' : StillWaits t u n ys) : StillWaits s u (n + m) ys :=
  ⟨h'.state, by rw [← Nat.add_assoc, h'.timer, h.timer], h'.seq.trans h.seq, h'.inputs⟩

/-- With time left a cycle takes its tick, if it has one, from TIMER, and the wait goes on (rule R242). -/
theorem step_waits_on {s : State} (hs : s.state = .awaitingAck) (quiet : OnlyTicks s.sample)
    (left : (if pvMsTick s.sample.pv then 1 else 0) < s.timer.toNat) :
    ∃ t, step s = .next t ∧ StillWaits s t (if pvMsTick s.sample.pv then 1 else 0) s.inputs.tail := by
  obtain ⟨u, lanes, run⟩ := step_waiting hs quiet
  rw [run, arqOp_waiting hs quiet]
  have hu : u.state = .awaitingAck := lanes.state.trans hs
  cases tick : pvMsTick s.sample.pv with
  | false => exact ⟨u, rfl, hu, congrArg BitVec.toNat lanes.timer, lanes.seq, lanes.inputs⟩
  | true =>
    have left : 1 < s.timer.toNat := by simpa [tick] using left
    have left' : 1 < u.timer.toNat := lanes.timer ▸ left
    refine ⟨{ u with timer := u.timer - 1 }, ?_, hu, ?_, lanes.seq, lanes.inputs⟩
    · rw [if_pos rfl, if_pos left, runOp_some, exec_msTick_waiting hu left']
    · exact (timer_sub_one_toNat left').trans (congrArg BitVec.toNat lanes.timer)

/-- The tick that finds TIMER at its end is the timeout (rules R200 and R243). -/
theorem step_times_out {s : State} (hs : s.state = .awaitingAck) (quiet : OnlyTicks s.sample)
    (tick : pvMsTick s.sample.pv = true) (last : s.timer.toNat ≤ 1) :
    ∃ t, step s = .next t ∧ (t.state = .retry ∨ t.state = .abandoned) ∧ t.timer = 0 ∧ t.out.evValid = true ∧
      t.out.evCode = 2 ∧ t.out.evArg = s.seq := by
  obtain ⟨u, lanes, run⟩ := step_waiting hs quiet
  have expires := exec_tickExpire_waiting (lanes.state.trans hs) (lanes.timer ▸ last)
  rw [run, arqOp_waiting hs quiet, if_pos tick, if_neg (Nat.not_lt.mpr last), runOp_some, expires]
  exact ⟨_, rfl, (State.negative_state _).imp_right And.right, by simp, by simp, by simp, by simpa using lanes.seq⟩

/-! ## The whole wait -/

theorem run_succ_of_step {s t : State} (n : Nat) (e : step s = .next t) :
    Host.Core.run core (n + 1) s = Host.Core.run core n t := by
  have first : core.step s = .next t := e
  simp only [Host.Core.run, first]

/-- A run goes on from the state that its first part answers. -/
theorem run_add {s t : State} {m : Nat} (n : Nat) (e : Host.Core.run core m s = .next t) :
    Host.Core.run core (m + n) s = Host.Core.run core n t := by
  induction m generalizing s with
  | zero =>
    obtain rfl := Host.Outcome.next.inj e
    rw [Nat.zero_add]
  | succ m ih =>
    rw [Nat.succ_add]
    simp only [Host.Core.run] at e ⊢
    cases first : core.step s with
    | next u =>
      simp only [first] at e ⊢
      exact ih e
    | fault r | refused r => simp [first] at e

/-- With fewer ticks than TIMER the block still waits at the end of the run (rules R242 and R247). -/
theorem run_waits_on {xs rest : List Sample} {s : State} (hs : s.state = .awaitingAck) (inputs : s.inputs = xs ++ rest)
    (quiet : ∀ x ∈ xs, OnlyTicks x) (left : xs.countP (fun x => pvMsTick x.pv) < s.timer.toNat) :
    ∃ t, Host.Core.run core xs.length s = .next t ∧ StillWaits s t (xs.countP fun x => pvMsTick x.pv) rest := by
  induction xs generalizing s with
  | nil => exact ⟨s, rfl, hs, rfl, rfl, inputs⟩
  | cons x xs ih =>
    obtain ⟨quietNow, quietLater⟩ := List.forall_mem_cons.mp quiet
    obtain rfl : s.sample = x := State.sample_of_inputs inputs
    rw [List.countP_cons] at left ⊢
    obtain ⟨u, e, first⟩ := step_waits_on hs quietNow (by omega)
    have remaining := first.timer
    have inputs' : u.inputs = xs ++ rest := first.inputs.trans (congrArg List.tail inputs)
    obtain ⟨t, run, later⟩ := ih first.state inputs' quietLater (by omega)
    exact ⟨t, (run_succ_of_step _ e).trans run, first.trans later⟩

/-- Settles O56: fewer ticks than TIMER leave the block waiting; the cycles before the last tick leave 1 on TIMER, and
that tick takes the timeout. -/
theorem timeoutComesAtTheLastTick : Obligations.TimeoutComesAtTheLastTick := by
  intro xs s rest hs inputs quiet
  refine ⟨fun left => ?_, ?_⟩
  · obtain ⟨t, run, waits⟩ := run_waits_on hs inputs quiet left
    exact ⟨t, run, waits.state, waits.timer⟩
  · rintro ys y rfl tick due
    obtain ⟨quietBefore, quietLast⟩ := List.forall_mem_append.mp quiet
    rw [List.append_assoc] at inputs
    obtain ⟨u, before, waits⟩ := run_waits_on hs inputs quietBefore (by omega)
    obtain rfl : u.sample = y := State.sample_of_inputs waits.inputs
    have last : u.timer.toNat ≤ 1 := by have := waits.timer; omega
    obtain ⟨t, e, outcome, timer, valid, code, arg⟩ :=
      step_times_out waits.state (quietLast _ (List.mem_singleton_self _)) tick last
    refine ⟨t, ?_, outcome, timer, valid, code, arg.trans waits.seq⟩
    rw [List.length_append, List.length_singleton, run_add 1 before, run_succ_of_step 0 e]
    rfl

end Sys2Proof.Machine
end

section
/-! The host interface (rules R42 to R56 and R271 to R282): the layout of the registers that a read drives, the words
that select the register writes, and START's three ends. -/

namespace Sys2Proof.Machine

/-! ## The layout of the registers -/

/-- A bit of a word, from its field of one bit. -/
theorem getLsbD_of_field {n k : Nat} {v : BitVec n} {b : Bool} (h : v.extractLsb' k 1 = BitVec.ofBool b) :
    v.getLsbD k = b := by
  have bit := congrArg (·.getLsbD 0) h
  simpa using bit

theorem toNat_zero_append {n m : Nat} (x : BitVec m) : (0#n ++ x).toNat = x.toNat := by
  rw [BitVec.toNat_append, BitVec.toNat_zero, Nat.zero_shiftLeft, Nat.zero_or]

/-- CTRL (rule R42). -/
theorem ctrlWord_bits (s : State) : s.ctrlWord.getLsbD 1 = s.irqEn ∧ ∀ i, i ≠ 1 → s.ctrlWord.getLsbD i = false := by
  unfold State.ctrlWord
  refine ⟨getLsbD_of_field ?_, fun i other => ?_⟩
  · rw [BitVec.extractLsb'_append_eq_of_le (by omega)]
    exact extract_low ..
  · rw [BitVec.getLsbD_append, BitVec.getLsbD_append]
    split
    · exact BitVec.getLsbD_zero
    · rw [if_neg (by omega), BitVec.getLsbD_zero]

/-- STATUS (rule R43): each field is the lowest part of the word, once the parts below it are taken off. -/
theorem statusWord_fields (s : State) :
    s.statusWord.extractLsb' 0 3 = s.state.bits ∧ s.statusWord.getLsbD 3 = false ∧ s.statusWord.getLsbD 4 = s.busy ∧
    s.statusWord.getLsbD 5 = (s.state == .done) ∧ s.statusWord.getLsbD 6 = s.abandoned ∧
    s.statusWord.getLsbD 7 = (s.state == .error) ∧ s.statusWord.extractLsb' 8 4 = s.errCode ∧
    s.statusWord.extractLsb' 12 3 = s.errState.bits ∧ s.statusWord.getLsbD 15 = false ∧
    s.statusWord.getLsbD 16 = s.irqPend ∧ s.statusWord.extractLsb' 17 15 = 0 := by
  unfold State.statusWord
  refine ⟨?_, getLsbD_of_field ?_, getLsbD_of_field ?_, getLsbD_of_field ?_, getLsbD_of_field ?_, getLsbD_of_field ?_,
    ?_, ?_, getLsbD_of_field ?_, getLsbD_of_field ?_, ?top⟩
  all_goals repeat rw [BitVec.extractLsb'_append_eq_of_le (by omega)]
  case top => exact BitVec.extractLsb'_eq_self
  all_goals exact extract_low ..

/-- FRAME (rule R53), part by part as for STATUS. -/
theorem frameWord_fields (s : State) :
    s.frameWord.extractLsb' 0 11 = s.frameLen ∧ s.frameWord.getLsbD 11 = s.isLast ∧
    s.frameWord.getLsbD 12 = s.pktReady ∧ s.frameWord.getLsbD 13 = s.memPend ∧ s.frameWord.extractLsb' 14 2 = 0 ∧
    s.frameWord.extractLsb' 16 11 = s.memIdx ∧ s.frameWord.extractLsb' 27 5 = 0 := by
  unfold State.frameWord
  refine ⟨?_, getLsbD_of_field ?_, getLsbD_of_field ?_, getLsbD_of_field ?_, ?_, ?_, ?top⟩
  all_goals repeat rw [BitVec.extractLsb'_append_eq_of_le (by omega)]
  case top => exact BitVec.extractLsb'_eq_self
  all_goals exact extract_low ..

/-- PARAM (rule R55), part by part as for STATUS. -/
theorem paramWord_fields (p : Params) :
    (paramWord p).extractLsb' 0 11 = BitVec.ofNat 11 p.payloadSize ∧ (paramWord p).extractLsb' 11 5 = 0 ∧
    (paramWord p).extractLsb' 16 16 = BitVec.ofNat 16 p.lastRetryLimit := by
  unfold paramWord
  refine ⟨?_, ?_, ?top⟩
  all_goals repeat rw [BitVec.extractLsb'_append_eq_of_le (by omega)]
  case top => exact BitVec.extractLsb'_eq_self
  all_goals exact extract_low ..

/-- Settles O7: the value is that of rule R271's table, and each register has its layout. -/
theorem readReturnsTheRegister : Obligations.ReadReturnsTheRegister := by
  intro s off w
  refine ⟨s.readValue off, rfl, ?ctrl, ?status, ?srcBase, ?srcLen, ?timeout, ?seq, ?offset, ?retx, ?attempts, ?elapsed,
    ?bytes, ?frame, ?timer, ?param, ?reserved⟩
  case reserved => rintro (rfl | rfl) <;> rfl
  all_goals rintro rfl
  case ctrl => exact ctrlWord_bits s
  case status => exact statusWord_fields s
  case seq | attempts | timer => exact toNat_zero_append _
  case frame => exact frameWord_fields s
  case param => exact paramWord_fields s.params
  case srcBase | srcLen | timeout | offset | retx | elapsed | bytes => rfl

/-! ## Writes -/

/-- A write's word decodes to the register operation of its offset (rules R114 and R121). -/
theorem decodeCsr_of_write {a : BitVec 37} {off : BitVec 4} {i : Instr} (write : csrWe a = true)
    (offset : csrOff a = off) (wf : i.wellFormed {} = true) (guard : i.guard {} ⟨0, 0, 0⟩ = true)
    (word : encode {} ⟨0, 0, 0⟩ i = .csr (csrWord true off (csrWdata a))) : decodeCsr a = i := by
  have fields : csrWord true off (csrWdata a) = a := by rw [← offset, ← write, csrWord_of_fields]
  have trip := decodeOfEncodeIsTheOperation i {} ⟨0, 0, 0⟩ wf guard
  rw [word, fields] at trip
  exact Except.ok.inj trip

/-- A STATUS write by its bit 16 (rule R278). -/
theorem exec_csrWrStatus (s : State) (w : BitVec 32) :
    exec (.csrWrStatus w) s = .next (if w.getLsbD 16 then { s with irqPend := false } else s) := by
  show execCsrWrStatus w s = _
  unfold execCsrWrStatus
  cases w.getLsbD 16 with
  | true => rw [Bool.not_true, Bool.and_false, if_pos rfl]
  | false => rw [Bool.not_false, Bool.and_true, if_neg Bool.false_ne_true]

/-- Settles O8: each write by its word and by its meaning; the end of a transfer comes after the host lane's clear. -/
theorem controlAndStatusWrites : Obligations.ControlAndStatusWrites := by
  refine ⟨fun a write => ⟨fun off bit0 => ?_, fun off => decodeCsr_of_write write off rfl rfl rfl, fun off => ?_⟩,
    fun s w off => ⟨rfl, fun bit16 => ?_, fun bit16 => ?_, rfl⟩, fun s t e noReset _ busy ended => ?_⟩
  · exact decodeCsr_of_write write off (by simpa [Instr.wellFormed] using bit0) rfl rfl
  · exact decodeCsr_of_write write rfl (decide_eq_true off) rfl rfl
  · rw [exec_csrWrStatus, if_pos bit16]
  · rw [exec_csrWrStatus, bit16, if_neg Bool.false_ne_true]
  · obtain ⟨-, ends, -⟩ := completionInterruptIsNotLost s t e
    exact ends noReset busy ended

/-- Settles O9: the guard of each configuration write is BUSY. -/
theorem configurationWrites : Obligations.ConfigurationWrites := by
  refine ⟨fun a write => ⟨fun off => ?_, fun off => ?_, fun off => ?_⟩, fun s w => ⟨fun busy => ?_, fun idle => ?_⟩⟩
  · exact decodeCsr_of_write write off rfl rfl rfl
  · exact decodeCsr_of_write write off rfl rfl rfl
  · exact decodeCsr_of_write write off rfl rfl rfl
  · simp [exec, execCsrWrSrcBase, execCsrWrSrcLen, execCsrWrTimeout, busy]
  · simp [exec, execCsrWrSrcBase, execCsrWrSrcLen, execCsrWrTimeout, idle]

/-! ## START -/

theorem exec_start_busy {s : State} (w : BitVec 32) (busy : s.busy = true) :
    exec (.start w) s = .next { s with irqEn := w.getLsbD 1 } := by
  show execStart w s = _
  rw [execStart_eq, if_pos busy]

theorem exec_start_accepted {s : State} (w : BitVec 32) (idle : s.busy = false) (passed : s.check = 0) :
    exec (.start w) s = .next { s with irqEn := w.getLsbD 1 }.startInit.frameSetup := by
  show execStart w s = _
  rw [execStart_eq, idle, if_neg Bool.false_ne_true, if_pos passed]

theorem exec_start_rejected {s : State} (w : BitVec 32) (idle : s.busy = false) (failed : s.check ≠ 0) :
    exec (.start w) s = .next ({ s with irqEn := w.getLsbD 1 }.startInit.fatal s.check) := by
  show execStart w s = _
  rw [execStart_eq, idle, if_neg Bool.false_ne_true, if_neg failed]

/-- Settles O10: the word is START's, and BUSY is its first branch. -/
theorem startWhileBusyWritesOnlyIrqEn : Obligations.StartWhileBusyWritesOnlyIrqEn :=
  ⟨fun _ write off bit0 => decodeCsr_of_write write off bit0 rfl rfl, fun _ w busy => exec_start_busy w busy⟩

/-- check() with its first condition on TIMEOUT_MS as an unsigned number (rules R46 and R275). -/
theorem check_eq (s : State) :
    s.check =
      if s.timeoutMs.toNat = 0 ∨ 2 ^ 31 ≤ s.timeoutMs.toNat then 1
      else if s.params.maxLen < s.srcLen.toNat then 2
      else if 2 ^ 32 < s.srcBase.toNat + s.srcLen.toNat then 3 else 0 := by
  have timeout : sint32 s.timeoutMs ≤ 0 ↔ s.timeoutMs.toNat = 0 ∨ 2 ^ 31 ≤ s.timeoutMs.toNat := by
    rw [← not_lt, sint32_pos]
    omega
  simp only [State.check, timeout]

/-- Settles O12: the code is check()'s answer, and the fatal entry follows the clearing of the transfer's state. -/
theorem rejectedStartTakesTheFirstFailingCode : Obligations.RejectedStartTakesTheFirstFailingCode := by
  intro s w code idle first failed
  obtain rfl : code = s.check := first.trans (check_eq s).symm
  refine ⟨_, exec_start_rejected w idle failed, rfl, rfl, rfl, rfl, ?event, ?kept⟩
  case event =>
    rw [← fatalArg_eq_setWidth]
    rfl
  case kept =>
    exact ⟨rfl, rfl, rfl, rfl, rfl, rfl, rfl, rfl, rfl, rfl, rfl, rfl, rfl, rfl, rfl, rfl, rfl, rfl, rfl, rfl, rfl⟩

/-- The buffer of frame 0: its number and its flag, and zeros (rules R164 and R165). -/
theorem first_frame_buffer (s : State) :
    s.startInit.frameSetup.pktBuf.read 0 = 0 ∧ s.startInit.frameSetup.pktBuf.read 1 = 0 ∧
    s.startInit.frameSetup.pktBuf.read 2 = (if s.startInit.frameSetup.isLast then 1 else 0) ∧
    ∀ i, 3 ≤ i → s.startInit.frameSetup.pktBuf.read i = 0 := by
  have buffer := headerBuffer_read s.startInit.seq s.startInit.frameSetup.isLast
  refine ⟨(buffer 0).trans BitVec.extractLsb'_zero, (buffer 1).trans BitVec.extractLsb'_zero, buffer 2,
    fun i hi => (buffer i).trans ?_⟩
  simp [headerBytes, hi]

/-- Frame 0 holds the whole source, or PAYLOAD_SIZE bytes of it (rules R162 and R163). -/
theorem first_frame_length {s : State} (legal : s.params.Legal) (passed : s.check = 0) :
    s.startInit.frameSetup.frameLen.toNat = min s.srcLen.toNat s.params.payloadSize := by
  have length := ((frameDue_of_start s legal passed).frameSetup.transfer rfl).frameLength.trans (frameLenAt_eq_min ..)
  exact length.trans (Nat.min_comm ..)

/-- Frame 0 is empty where the source is (rules R161 and R165). -/
theorem first_frame_empty {s : State} (legal : s.params.Legal) (passed : s.check = 0) :
    s.startInit.frameSetup.frameLen = 0 ↔ s.srcLen = 0 := by
  have payload := legal.1.1
  rw [BitVec.toNat_eq, BitVec.toNat_eq, first_frame_length legal passed]
  show min s.srcLen.toNat s.params.payloadSize = 0 ↔ s.srcLen.toNat = 0
  omega

/-- Settles O11: check() answers 0, and frame 0 is set up after the clearing of the last transfer's state. -/
theorem acceptedStartFramesTheFirstFrame : Obligations.AcceptedStartFramesTheFirstFrame := by
  intro s w legal idle positive small length range
  have passed : s.check = 0 := by rw [check_eq, if_neg (by omega), if_neg (by omega), if_neg (by omega)]
  have last : isLastAt s.params 0 s.srcLen.toNat = true ↔ s.srcLen.toNat ≤ s.params.payloadSize := by
    rw [isLastAt, decide_eq_true_iff, Nat.zero_add]
  have frameLen := first_frame_length (s := { s with irqEn := w.getLsbD 1 }) legal passed
  have empty := first_frame_empty (s := { s with irqEn := w.getLsbD 1 }) legal passed
  obtain ⟨high, low, flag, zeros⟩ := first_frame_buffer { s with irqEn := w.getLsbD 1 }
  exact ⟨_, exec_start_accepted w idle passed, rfl, rfl, rfl, last, frameLen, rfl, bne_iff_ne.trans empty.not,
    beq_iff_eq.trans empty, rfl, rfl, rfl, rfl, rfl, rfl, rfl, rfl, rfl, rfl, high, low, flag, zeros, rfl, rfl, rfl,
    rfl, rfl, rfl, rfl⟩

end Sys2Proof.Machine
end

section
/-! No step of a state of the invariant stops (rules R308 and R318): MEM_BYTE alone can stop, and the invariant keeps its
index inside the packet buffer. -/

namespace Sys2Proof.Machine

/-- MEM_BYTE is the only operation that can stop; every other one answers a next state from every state. -/
theorem exec_next_of_ne_memByte (i : Instr) (s : State) (other : ∀ b, i ≠ .memByte b) : ∃ t, exec i s = .next t := by
  cases i with
  | memByte b => exact absurd rfl (other b)
  | start w => exact ⟨_, execStart_eq w s⟩
  | _ => exact ⟨_, rfl⟩

/-- The current frame's payload fits its packet (rules R28 and R163). -/
theorem Transfer.frameLen_le_payloadSize {s : State} (h : Transfer s) : s.frameLen.toNat ≤ s.params.payloadSize := by
  rw [h.frameLength, h.lastFlag]
  exact frameLenAt_le ..

/-- The payload byte asked for has its place in the packet buffer (rules R37, R39 and R167). -/
theorem BlockInv.requested_index_in_buffer {s : State} (h : BlockInv s) (req : s.memReq = true) :
    s.params.headerSize + s.memIdx.toNat < s.params.packetSize := by
  have index := h.pending ((memReq_iff s).mp req).2
  have frame := (h.transfer_of_memReq req).frameLen_le_payloadSize
  unfold Params.packetSize
  omega

/-- MEM_BYTE does not stop in a state of the invariant: in its window the byte has its place, outside it nothing happens
(rules R123 and R167). -/
theorem BlockInv.execMemByte_next {s : State} (h : BlockInv s) (b : Byte) : ∃ t, execMemByte b s = .next t := by
  cases req : s.memReq with
  | true => exact ⟨_, (execMemByte_in_window b s req).trans (if_pos (h.requested_index_in_buffer req))⟩
  | false => exact ⟨s, execMemByte_outside_window b req⟩

theorem BlockInv.exec_next {s : State} (h : BlockInv s) (i : Instr) : ∃ t, exec i s = .next t := by
  by_cases byte : ∃ b, i = .memByte b
  · obtain ⟨b, rfl⟩ := byte
    exact h.execMemByte_next b
  · exact exec_next_of_ne_memByte i s (not_exists.mp byte)

/-- A lane of the cycle goes on, with an operation or without, to a state of the invariant. -/
theorem BlockInv.lane_next {s : State} (h : BlockInv s) (o : Option Instr) : ∃ t, runOp o s = .next t ∧ BlockInv t := by
  have goesOn : ∃ t, runOp o s = .next t := by
    cases o with
    | none => exact ⟨s, rfl⟩
    | some i => exact h.exec_next i
  obtain ⟨t, e⟩ := goesOn
  exact ⟨t, e, h.of_lane e⟩

/-- Settles O49: a reset cycle runs RESET, and any other runs three lanes, each from a state of the invariant. -/
theorem everyStepGoesOn : Obligations.EveryStepGoesOn := by
  intro s h
  have opened := h.openCycle s.sample
  have goesOn : ∃ t, step s = .next t := by
    cases reset : pvRst s.sample.pv with
    | true =>
      rw [step_reset s reset]
      exact opened.exec_next .reset
    | false =>
      obtain ⟨s1, host, h1⟩ := opened.lane_next (hostOp s.sample)
      obtain ⟨s2, elapsed, h2⟩ := h1.lane_next (elapsedOp s.sample s)
      obtain ⟨t, arq, -⟩ := h2.lane_next (arqOp s.sample s)
      exact ⟨t, (step_eq_arq_lane reset host elapsed).trans arq⟩
  obtain ⟨t, e⟩ := goesOn
  exact ⟨t, e, everyStepKeepsTheInvariant s t h e⟩

end Sys2Proof.Machine
end

section
/-! RESET (rules R57, R341 and R342): what it answers, and what the registers and the state-only outputs then show. -/

namespace Sys2Proof.Machine

/-- RESET's answer: the state after reset with the packet buffer and the model's own fields of the state it runs in. -/
theorem exec_reset (s : State) :
    exec .reset s = .next { State.reset with
      pktBuf := s.pktBuf, params := s.params, inputs := s.inputs, cycle := s.cycle, out := s.out } := rfl

/-- A reset cycle always goes on: RESET keeps the opened cycle's outputs. -/
theorem step_reset_eq (s : State) (rst : pvRst s.sample.pv = true) :
    step s = .next { State.reset with
      pktBuf := s.pktBuf, params := s.params, inputs := s.inputs.tail, cycle := s.cycle + 1,
      out := s.portOutputs s.sample } :=
  (step_reset s rst).trans (exec_reset _)

/-- No register but PARAM shows the packet buffer or a field of the model's own. -/
theorem readValue_of_own_fields (s : State) (m : Memory) (p : Params) (inputs : List Sample) (cycle : Nat)
    (out : Outputs) {off : BitVec 4} (notParam : off ≠ 0xD) :
    { s with pktBuf := m, params := p, inputs := inputs, cycle := cycle, out := out }.readValue off =
      s.readValue off := by
  unfold State.readValue
  split
  -- PARAM's row, the fourteenth of the register map.
  case h_14 param => exact absurd (BitVec.eq_of_toNat_eq param) notParam
  all_goals rfl

/-- The registers of the state after reset, all sixteen offsets but PARAM's (rules R56, R57 and R342). -/
theorem reset_readValue : ∀ off : BitVec 4, off ≠ 0xD → State.reset.readValue off = 0 := by decide

/-- PARAM of the default parameters: LAST_RETRY_LIMIT = 100 and PAYLOAD_SIZE = 1021 (rules R7 and R55). -/
theorem paramWord_default : paramWord {} = 0x006403FD := by decide

/-- Settles O5: RESET's answer is `exec_reset`, and in a reset cycle the outputs are those that the cycle opened with, where
the host lane, the event port and the datagram are still empty. -/
theorem resetClearsAllButThePacketBuffer : Obligations.ResetClearsAllButThePacketBuffer := by
  refine ⟨fun s => ⟨_, exec_reset s, ?values⟩, fun s rst => ⟨_, step_reset_eq s rst, exec_reset _, ?outputs⟩⟩
  case values =>
    exact ⟨rfl, rfl, rfl, rfl, rfl, rfl, rfl, rfl, rfl, rfl, rfl, rfl, rfl, rfl, rfl, rfl, rfl, rfl, rfl, rfl, rfl, rfl,
      rfl, rfl, rfl, rfl⟩
  case outputs => exact ⟨rfl, rfl, rfl, rfl⟩

/-- Settles O6: PARAM alone reads a field that RESET keeps; every other register, and each state-only output, reads as in
the state after reset. -/
theorem registersReadZeroAfterReset : Obligations.RegistersReadZeroAfterReset := by
  refine fun s => ⟨_, exec_reset s, fun off notParam => ?zero, fun defaults => ?param, rfl, rfl, rfl, rfl⟩
  case zero => exact (readValue_of_own_fields State.reset _ _ _ _ _ notParam).trans (reset_readValue off notParam)
  case param => exact (congrArg paramWord defaults).trans paramWord_default

end Sys2Proof.Machine
end
